-- ==== Sys2Proof/Word.lean ====
section
/-! DEFINITION. Word.lean: the machine's units (byte, word, doubleword) and its two size attributes. -/

namespace Sys2Proof

/-- A byte, 8 bits (R1). -/
abbrev Byte := BitVec 8

/-- A word, 16 bits (R1). -/
abbrev Word := BitVec 16

/-- A doubleword, 32 bits (R1). -/
abbrev DWord := BitVec 32

/-- An operand-size or address-size attribute: 16 or 32 bits (R3). -/
inductive Size where
  | s16 | s32
deriving DecidableEq, Repr

/-- The width of one operand: byte, word or doubleword (R103). -/
inductive Width where
  | b8 | w16 | d32
deriving DecidableEq, Repr

/-- The number of bits of a width. -/
abbrev Width.bits : Width → Nat
  | .b8 => 8
  | .w16 => 16
  | .d32 => 32

/-- The number of bytes of a width. -/
abbrev Width.bytes : Width → Nat
  | .b8 => 1
  | .w16 => 2
  | .d32 => 4

/-- The operand width of the "v" forms: word or doubleword by OperandSize. -/
abbrev Size.width : Size → Width
  | .s16 => .w16
  | .s32 => .d32

/-- The number of bytes of a size attribute: 2 or 4. -/
abbrev Size.bytes : Size → Nat
  | .s16 => 2
  | .s32 => 4

end Sys2Proof
end

