-- ==== Sys2Proof/Config.lean ====
section
/-! DEFINITION. Config.lean: the spec's open parameters (92_eei_decisions.md) and the free values, which have no body. -/

namespace Sys2Proof.Config

/-- PHYS_BITS: the width of a physical address (D23). -/
def physBits : Nat := 32

/-- MAX_INSN_LEN: the longest instruction, prefixes included; none is the spec's default (D15). -/
def maxInsnLen : Option Nat := none

/-- PREFETCH_WINDOW: how far ahead of EIP a store may be missed by instruction fetch (R107, D4). -/
def prefetchWindow : Nat := 16

/-- HAS_NPX: whether a coprocessor is attached; false is the spec's default (D22). -/
def hasNpx : Bool := false

/-- The free values: what the spec calls undefined is read from here, at the number of the draw (D14).
It has no body, so nothing can be proved of what it gives. -/
opaque freeBits : Nat → BitVec 32

/-- What a port read answers (D27): the number of the draw, the port and the number of bytes. It has no body. -/
opaque ioRead : Nat → BitVec 16 → Nat → BitVec 32

/-- The kind of a memory access, for paging (R101). -/
inductive Access where
  | read | write | execute
deriving DecidableEq, Repr

/-- Translate (R101, D9): memory, CR3, a linear address, the kind of access and whether it is made at CPL 3, to a
physical address or to a page fault, `true` for a protection violation (R461). It has no body. -/
opaque translate : List Host.Cell → BitVec 32 → BitVec 32 → Access → Bool → Except Bool (BitVec 32)

end Sys2Proof.Config
end

