-- ==== Sys2Proof/Syntax.lean ====
section
/-! DEFINITION. Syntax.lean: the instructions, one constructor per row of spec/opcode_table.json, and their operands. -/

namespace Sys2Proof

/-- The register code of the rb, rw and rd columns (R31), named by its doubleword register.
A byte operand reads code 4 to 7 as AH, CH, DH, BH. -/
inductive Reg where
  | eax | ecx | edx | ebx | esp | ebp | esi | edi
deriving DecidableEq, Repr

/-- The six segment registers, in the order of their codes 0 to 5 (R31). -/
inductive SReg where
  | es | cs | ss | ds | fs | gs
deriving DecidableEq, Repr

/-- A displacement (R148): none, one byte to be sign-extended, or `n` bits. -/
inductive Disp (n : Nat) where
  | none
  | short (d : BitVec 8)
  | full (d : BitVec n)
deriving DecidableEq, Repr

/-- The base registers of the 16-bit addressing forms, in the order of r/m 0 to 7 (R145). -/
inductive Base16 where
  | bxsi | bxdi | bpsi | bpdi | si | di | bp | bx
deriving DecidableEq, Repr

/-- The memory addressing forms of the ModR/M and SIB bytes (R145 to R147). -/
inductive EA where
  | a16 (base : Base16) (disp : Disp 16)
  | a16abs (disp : BitVec 16)
  | a32 (base : Reg) (disp : Disp 32)
  | a32abs (disp : BitVec 32)
  | sib (scale : BitVec 2) (index : Option Reg) (base : Reg) (disp : Disp 32)
  | sibNoBase (scale : BitVec 2) (index : Option Reg) (disp : BitVec 32)
deriving DecidableEq, Repr

/-- The operand that mod and r/m select: a register or memory (R144). -/
inductive RM where
  | reg (r : Reg)
  | mem (ea : EA)
deriving DecidableEq, Repr

/-- A field of OperandSize or AddressSize bits in the instruction (R149). -/
inductive VImm where
  | w16 (v : BitVec 16)
  | w32 (v : BitVec 32)
deriving DecidableEq, Repr

/-- The count of a shift or rotate (R396, R421): an immediate byte (C0, C1), one (D0, D1) or CL (D2, D3). -/
inductive Count where
  | imm (n : BitVec 8)
  | one
  | cl
deriving DecidableEq, Repr

/-- The displacement of a conditional jump (R310): one byte (70 to 7F) or OperandSize bits (0F 80 to 0F 8F). -/
inductive Rel where
  | short (d : BitVec 8)
  | near (d : VImm)
deriving DecidableEq, Repr

/-- The instructions. A constructor stands for one row of the opcode table; its docstring is the row's opcode column
and the rule that holds its meaning. The rows that differ only in a shift's count (C0, D0, D2) or in the length of a
conditional jump's displacement share one, whose last operand tells them apart: Lean's runtime builds no inductive
with more than 244 constructors that carry operands. The eleven prefix bytes have rows of their own and so
constructors of their own. -/
inductive Instr where
  /-- 00 /r, R205. -/
  | addRm8R8 (rm : RM) (r : Reg)
  /-- 01 /r, R205. -/
  | addRmvRv (rm : RM) (r : Reg)
  /-- 02 /r, R205. -/
  | addR8Rm8 (r : Reg) (rm : RM)
  /-- 03 /r, R205. -/
  | addRvRmv (r : Reg) (rm : RM)
  /-- 04 ib, R205. -/
  | addAlImm8 (imm : BitVec 8)
  /-- 05 iw|id, R205. -/
  | addEaxImmv (imm : VImm)
  /-- 80 /0 ib, R205. -/
  | addRm8Imm8 (rm : RM) (imm : BitVec 8)
  /-- 81 /0 iw|id, R205. -/
  | addRmvImmv (rm : RM) (imm : VImm)
  /-- 83 /0 ib, R205. -/
  | addRmvImm8 (rm : RM) (imm : BitVec 8)
  /-- 08 /r, R371. -/
  | orRm8R8 (rm : RM) (r : Reg)
  /-- 09 /r, R371. -/
  | orRmvRv (rm : RM) (r : Reg)
  /-- 0A /r, R371. -/
  | orR8Rm8 (r : Reg) (rm : RM)
  /-- 0B /r, R371. -/
  | orRvRmv (r : Reg) (rm : RM)
  /-- 0C ib, R371. -/
  | orAlImm8 (imm : BitVec 8)
  /-- 0D iw|id, R371. -/
  | orEaxImmv (imm : VImm)
  /-- 80 /1 ib, R371. -/
  | orRm8Imm8 (rm : RM) (imm : BitVec 8)
  /-- 81 /1 iw|id, R371. -/
  | orRmvImmv (rm : RM) (imm : VImm)
  /-- 83 /1 ib, R371. -/
  | orRmvImm8 (rm : RM) (imm : BitVec 8)
  /-- 10 /r, R204. -/
  | adcRm8R8 (rm : RM) (r : Reg)
  /-- 11 /r, R204. -/
  | adcRmvRv (rm : RM) (r : Reg)
  /-- 12 /r, R204. -/
  | adcR8Rm8 (r : Reg) (rm : RM)
  /-- 13 /r, R204. -/
  | adcRvRmv (r : Reg) (rm : RM)
  /-- 14 ib, R204. -/
  | adcAlImm8 (imm : BitVec 8)
  /-- 15 iw|id, R204. -/
  | adcEaxImmv (imm : VImm)
  /-- 80 /2 ib, R204. -/
  | adcRm8Imm8 (rm : RM) (imm : BitVec 8)
  /-- 81 /2 iw|id, R204. -/
  | adcRmvImmv (rm : RM) (imm : VImm)
  /-- 83 /2 ib, R204. -/
  | adcRmvImm8 (rm : RM) (imm : BitVec 8)
  /-- 18 /r, R425. -/
  | sbbRm8R8 (rm : RM) (r : Reg)
  /-- 19 /r, R425. -/
  | sbbRmvRv (rm : RM) (r : Reg)
  /-- 1A /r, R425. -/
  | sbbR8Rm8 (r : Reg) (rm : RM)
  /-- 1B /r, R425. -/
  | sbbRvRmv (r : Reg) (rm : RM)
  /-- 1C ib, R425. -/
  | sbbAlImm8 (imm : BitVec 8)
  /-- 1D iw|id, R425. -/
  | sbbEaxImmv (imm : VImm)
  /-- 80 /3 ib, R425. -/
  | sbbRm8Imm8 (rm : RM) (imm : BitVec 8)
  /-- 81 /3 iw|id, R425. -/
  | sbbRmvImmv (rm : RM) (imm : VImm)
  /-- 83 /3 ib, R425. -/
  | sbbRmvImm8 (rm : RM) (imm : BitVec 8)
  /-- 20 /r, R206. -/
  | andRm8R8 (rm : RM) (r : Reg)
  /-- 21 /r, R206. -/
  | andRmvRv (rm : RM) (r : Reg)
  /-- 22 /r, R206. -/
  | andR8Rm8 (r : Reg) (rm : RM)
  /-- 23 /r, R206. -/
  | andRvRmv (r : Reg) (rm : RM)
  /-- 24 ib, R206. -/
  | andAlImm8 (imm : BitVec 8)
  /-- 25 iw|id, R206. -/
  | andEaxImmv (imm : VImm)
  /-- 80 /4 ib, R206. -/
  | andRm8Imm8 (rm : RM) (imm : BitVec 8)
  /-- 81 /4 iw|id, R206. -/
  | andRmvImmv (rm : RM) (imm : VImm)
  /-- 83 /4 ib, R206. -/
  | andRmvImm8 (rm : RM) (imm : BitVec 8)
  /-- 28 /r, R438. -/
  | subRm8R8 (rm : RM) (r : Reg)
  /-- 29 /r, R438. -/
  | subRmvRv (rm : RM) (r : Reg)
  /-- 2A /r, R438. -/
  | subR8Rm8 (r : Reg) (rm : RM)
  /-- 2B /r, R438. -/
  | subRvRmv (r : Reg) (rm : RM)
  /-- 2C ib, R438. -/
  | subAlImm8 (imm : BitVec 8)
  /-- 2D iw|id, R438. -/
  | subEaxImmv (imm : VImm)
  /-- 80 /5 ib, R438. -/
  | subRm8Imm8 (rm : RM) (imm : BitVec 8)
  /-- 81 /5 iw|id, R438. -/
  | subRmvImmv (rm : RM) (imm : VImm)
  /-- 83 /5 ib, R438. -/
  | subRmvImm8 (rm : RM) (imm : BitVec 8)
  /-- 30 /r, R444. -/
  | xorRm8R8 (rm : RM) (r : Reg)
  /-- 31 /r, R444. -/
  | xorRmvRv (rm : RM) (r : Reg)
  /-- 32 /r, R444. -/
  | xorR8Rm8 (r : Reg) (rm : RM)
  /-- 33 /r, R444. -/
  | xorRvRmv (r : Reg) (rm : RM)
  /-- 34 ib, R444. -/
  | xorAlImm8 (imm : BitVec 8)
  /-- 35 iw|id, R444. -/
  | xorEaxImmv (imm : VImm)
  /-- 80 /6 ib, R444. -/
  | xorRm8Imm8 (rm : RM) (imm : BitVec 8)
  /-- 81 /6 iw|id, R444. -/
  | xorRmvImmv (rm : RM) (imm : VImm)
  /-- 83 /6 ib, R444. -/
  | xorRmvImm8 (rm : RM) (imm : BitVec 8)
  /-- 38 /r, R246. -/
  | cmpRm8R8 (rm : RM) (r : Reg)
  /-- 39 /r, R246. -/
  | cmpRmvRv (rm : RM) (r : Reg)
  /-- 3A /r, R246. -/
  | cmpR8Rm8 (r : Reg) (rm : RM)
  /-- 3B /r, R246. -/
  | cmpRvRmv (r : Reg) (rm : RM)
  /-- 3C ib, R246. -/
  | cmpAlImm8 (imm : BitVec 8)
  /-- 3D iw|id, R246. -/
  | cmpEaxImmv (imm : VImm)
  /-- 80 /7 ib, R246. -/
  | cmpRm8Imm8 (rm : RM) (imm : BitVec 8)
  /-- 81 /7 iw|id, R246. -/
  | cmpRmvImmv (rm : RM) (imm : VImm)
  /-- 83 /7 ib, R246. -/
  | cmpRmvImm8 (rm : RM) (imm : BitVec 8)
  /-- D4 0A, R202. -/
  | aam (imm : BitVec 8)
  /-- D5 0A, R201. -/
  | aad (imm : BitVec 8)
  /-- 40+rw|rd, R275. -/
  | incRv (r : Reg)
  /-- 48+rw|rd, R251. -/
  | decRv (r : Reg)
  /-- 50+rw|rd, R393. -/
  | pushRv (r : Reg)
  /-- 58+rw|rd, R390. -/
  | popRv (r : Reg)
  /-- 62 /r, R208. -/
  | bound (r : Reg) (rm : RM)
  /-- 63 /r, R207. -/
  | arpl (rm : RM) (r : Reg)
  /-- 68 iw|id, R393. -/
  | pushImmv (imm : VImm)
  /-- 69 /r iw|id, R273. -/
  | imulRvRmvImmv (r : Reg) (rm : RM) (imm : VImm)
  /-- 6A ib, R393. -/
  | pushImm8 (imm : BitVec 8)
  /-- 6B /r ib, R273. -/
  | imulRvRmvImm8 (r : Reg) (rm : RM) (imm : BitVec 8)
  /-- 70 cb and 0F 80 cw|cd, R310. -/
  | jo (rel : Rel)
  /-- 71 cb and 0F 81 cw|cd, R310. -/
  | jno (rel : Rel)
  /-- 72 cb and 0F 82 cw|cd, R310. -/
  | jb (rel : Rel)
  /-- 73 cb and 0F 83 cw|cd, R310. -/
  | jnb (rel : Rel)
  /-- 74 cb and 0F 84 cw|cd, R310. -/
  | jz (rel : Rel)
  /-- 75 cb and 0F 85 cw|cd, R310. -/
  | jnz (rel : Rel)
  /-- 76 cb and 0F 86 cw|cd, R310. -/
  | jbe (rel : Rel)
  /-- 77 cb and 0F 87 cw|cd, R310. -/
  | jnbe (rel : Rel)
  /-- 78 cb and 0F 88 cw|cd, R310. -/
  | js (rel : Rel)
  /-- 79 cb and 0F 89 cw|cd, R310. -/
  | jns (rel : Rel)
  /-- 7A cb and 0F 8A cw|cd, R310. -/
  | jp (rel : Rel)
  /-- 7B cb and 0F 8B cw|cd, R310. -/
  | jnp (rel : Rel)
  /-- 7C cb and 0F 8C cw|cd, R310. -/
  | jl (rel : Rel)
  /-- 7D cb and 0F 8D cw|cd, R310. -/
  | jnl (rel : Rel)
  /-- 7E cb and 0F 8E cw|cd, R310. -/
  | jle (rel : Rel)
  /-- 7F cb and 0F 8F cw|cd, R310. -/
  | jnle (rel : Rel)
  /-- 0F 90 /r, R427. -/
  | seto (rm : RM)
  /-- 0F 91 /r, R427. -/
  | setno (rm : RM)
  /-- 0F 92 /r, R427. -/
  | setb (rm : RM)
  /-- 0F 93 /r, R427. -/
  | setnb (rm : RM)
  /-- 0F 94 /r, R427. -/
  | setz (rm : RM)
  /-- 0F 95 /r, R427. -/
  | setnz (rm : RM)
  /-- 0F 96 /r, R427. -/
  | setbe (rm : RM)
  /-- 0F 97 /r, R427. -/
  | setnbe (rm : RM)
  /-- 0F 98 /r, R427. -/
  | sets (rm : RM)
  /-- 0F 99 /r, R427. -/
  | setns (rm : RM)
  /-- 0F 9A /r, R427. -/
  | setp (rm : RM)
  /-- 0F 9B /r, R427. -/
  | setnp (rm : RM)
  /-- 0F 9C /r, R427. -/
  | setl (rm : RM)
  /-- 0F 9D /r, R427. -/
  | setnl (rm : RM)
  /-- 0F 9E /r, R427. -/
  | setle (rm : RM)
  /-- 0F 9F /r, R427. -/
  | setnle (rm : RM)
  /-- 84 /r, R439. -/
  | testRm8R8 (rm : RM) (r : Reg)
  /-- 85 /r, R439. -/
  | testRmvRv (rm : RM) (r : Reg)
  /-- 86 /r, R442. -/
  | xchgRm8R8 (rm : RM) (r : Reg)
  /-- 87 /r, R442. -/
  | xchgRmvRv (rm : RM) (r : Reg)
  /-- 88 /r, R360. -/
  | movRm8R8 (rm : RM) (r : Reg)
  /-- 89 /r, R360. -/
  | movRmvRv (rm : RM) (r : Reg)
  /-- 8A /r, R360. -/
  | movR8Rm8 (r : Reg) (rm : RM)
  /-- 8B /r, R360. -/
  | movRvRmv (r : Reg) (rm : RM)
  /-- 8C /r, R367. -/
  | movRmSreg (rm : RM) (code : BitVec 3)
  /-- 8D /r, R332. -/
  | lea (r : Reg) (rm : RM)
  /-- 8E /r, R367. -/
  | movSregRm (code : BitVec 3) (rm : RM)
  /-- 8F /0, R390. -/
  | popRmv (rm : RM)
  /-- 90+rw|rd, R442. -/
  | xchgEaxRv (r : Reg)
  /-- 9A cd|cp, R232. -/
  | callFar (off : VImm) (sel : BitVec 16)
  /-- A0, R360. -/
  | movAlMoffs (off : VImm)
  /-- A1, R360. -/
  | movEaxMoffs (off : VImm)
  /-- A2, R360. -/
  | movMoffsAl (off : VImm)
  /-- A3, R360. -/
  | movMoffsEax (off : VImm)
  /-- A8 ib, R439. -/
  | testAlImm8 (imm : BitVec 8)
  /-- A9 iw|id, R439. -/
  | testEaxImmv (imm : VImm)
  /-- B0+rb ib, R360. -/
  | movR8Imm8 (r : Reg) (imm : BitVec 8)
  /-- B8+rw iw | B8+rd id, R360. -/
  | movRvImmv (r : Reg) (imm : VImm)
  /-- C0 /0 ib and D0 /0 and D2 /0, R397. -/
  | rolRm8 (rm : RM) (count : Count)
  /-- C1 /0 ib and D1 /0 and D3 /0, R397. -/
  | rolRmv (rm : RM) (count : Count)
  /-- C0 /1 ib and D0 /1 and D2 /1, R398. -/
  | rorRm8 (rm : RM) (count : Count)
  /-- C1 /1 ib and D1 /1 and D3 /1, R398. -/
  | rorRmv (rm : RM) (count : Count)
  /-- C0 /2 ib and D0 /2 and D2 /2, R399. -/
  | rclRm8 (rm : RM) (count : Count)
  /-- C1 /2 ib and D1 /2 and D3 /2, R399. -/
  | rclRmv (rm : RM) (count : Count)
  /-- C0 /3 ib and D0 /3 and D2 /3, R400. -/
  | rcrRm8 (rm : RM) (count : Count)
  /-- C1 /3 ib and D1 /3 and D3 /3, R400. -/
  | rcrRmv (rm : RM) (count : Count)
  /-- C0 /4 ib and D0 /4 and D2 /4, R422. -/
  | shlRm8 (rm : RM) (count : Count)
  /-- C1 /4 ib and D1 /4 and D3 /4, R422. -/
  | shlRmv (rm : RM) (count : Count)
  /-- C0 /5 ib and D0 /5 and D2 /5, R424. -/
  | shrRm8 (rm : RM) (count : Count)
  /-- C1 /5 ib and D1 /5 and D3 /5, R424. -/
  | shrRmv (rm : RM) (count : Count)
  /-- C0 /7 ib and D0 /7 and D2 /7, R423. -/
  | sarRm8 (rm : RM) (count : Count)
  /-- C1 /7 ib and D1 /7 and D3 /7, R423. -/
  | sarRmv (rm : RM) (count : Count)
  /-- C2 iw, R410. -/
  | retNearImm (imm : BitVec 16)
  /-- C4 /r, R340. -/
  | les (r : Reg) (rm : RM)
  /-- C5 /r, R340. -/
  | lds (r : Reg) (rm : RM)
  /-- C6 /0 ib, R360. -/
  | movRm8Imm8 (rm : RM) (imm : BitVec 8)
  /-- C7 /0 iw|id, R360. -/
  | movRmvImmv (rm : RM) (imm : VImm)
  /-- C8 iw ib, R270. -/
  | enter (size : BitVec 16) (level : BitVec 8)
  /-- CA iw, R411. -/
  | retFarImm (imm : BitVec 16)
  /-- CD ib, R290. -/
  | intN (imm : BitVec 8)
  /-- D8+n /r, R478. -/
  | esc (op : BitVec 3) (reg : BitVec 3) (rm : RM)
  /-- E0 cb, R345. -/
  | loopneRel8 (imm : BitVec 8)
  /-- E1 cb, R345. -/
  | loopeRel8 (imm : BitVec 8)
  /-- E2 cb, R345. -/
  | loopRel8 (imm : BitVec 8)
  /-- E3 cb, R311. -/
  | jcxzRel8 (imm : BitVec 8)
  /-- E4 ib, R274. -/
  | inAlImm8 (imm : BitVec 8)
  /-- E5 ib, R274. -/
  | inEaxImm8 (imm : BitVec 8)
  /-- E6 ib, R372. -/
  | outImm8Al (imm : BitVec 8)
  /-- E7 ib, R372. -/
  | outImm8Eax (imm : BitVec 8)
  /-- E8 cw|cd, R230. -/
  | callRelv (imm : VImm)
  /-- E9 cw|cd, R312. -/
  | jmpRelv (imm : VImm)
  /-- EA cd|cp, R314. -/
  | jmpFar (off : VImm) (sel : BitVec 16)
  /-- EB cb, R312. -/
  | jmpRel8 (imm : BitVec 8)
  /-- F6 /0 ib, R439. -/
  | testRm8Imm8 (rm : RM) (imm : BitVec 8)
  /-- F7 /0 iw|id, R439. -/
  | testRmvImmv (rm : RM) (imm : VImm)
  /-- F6 /2, R370. -/
  | notRm8 (rm : RM)
  /-- F7 /2, R370. -/
  | notRmv (rm : RM)
  /-- F6 /3, R366. -/
  | negRm8 (rm : RM)
  /-- F7 /3, R366. -/
  | negRmv (rm : RM)
  /-- F6 /4, R365. -/
  | mulRm8 (rm : RM)
  /-- F7 /4, R365. -/
  | mulRmv (rm : RM)
  /-- F6 /5, R273. -/
  | imulRm8 (rm : RM)
  /-- F7 /5, R273. -/
  | imulRmv (rm : RM)
  /-- F6 /6, R252. -/
  | divRm8 (rm : RM)
  /-- F7 /6, R252. -/
  | divRmv (rm : RM)
  /-- F6 /7, R272. -/
  | idivRm8 (rm : RM)
  /-- F7 /7, R272. -/
  | idivRmv (rm : RM)
  /-- FE /0, R275. -/
  | incRm8 (rm : RM)
  /-- FE /1, R251. -/
  | decRm8 (rm : RM)
  /-- FF /0, R275. -/
  | incRmv (rm : RM)
  /-- FF /1, R251. -/
  | decRmv (rm : RM)
  /-- FF /2, R231. -/
  | callRmv (rm : RM)
  /-- FF /3, R232. -/
  | callFarM (rm : RM)
  /-- FF /4, R313. -/
  | jmpRmv (rm : RM)
  /-- FF /5, R314. -/
  | jmpFarM (rm : RM)
  /-- FF /6, R393. -/
  | pushRmv (rm : RM)
  /-- 0F 00 /0, R431. -/
  | sldt (rm : RM)
  /-- 0F 00 /1, R437. -/
  | str (rm : RM)
  /-- 0F 00 /2, R341. -/
  | lldt (rm : RM)
  /-- 0F 00 /3, R347. -/
  | ltr (rm : RM)
  /-- 0F 00 /4, R440. -/
  | verr (rm : RM)
  /-- 0F 00 /5, R440. -/
  | verw (rm : RM)
  /-- 0F 01 /0, R428. -/
  | sgdt (rm : RM)
  /-- 0F 01 /1, R428. -/
  | sidt (rm : RM)
  /-- 0F 01 /2, R334. -/
  | lgdt (rm : RM)
  /-- 0F 01 /3, R334. -/
  | lidt (rm : RM)
  /-- 0F 01 /4, R432. -/
  | smsw (rm : RM)
  /-- 0F 01 /6, R342. -/
  | lmsw (rm : RM)
  /-- 0F 02 /r, R331. -/
  | lar (r : Reg) (rm : RM)
  /-- 0F 03 /r, R346. -/
  | lsl (r : Reg) (rm : RM)
  /-- 0F 20 /r, R361. -/
  | movRCr (r : Reg) (code : BitVec 3)
  /-- 0F 21 /r, R361. -/
  | movRDr (r : Reg) (code : BitVec 3)
  /-- 0F 22 /r, R361. -/
  | movCrR (code : BitVec 3) (r : Reg)
  /-- 0F 23 /r, R361. -/
  | movDrR (code : BitVec 3) (r : Reg)
  /-- 0F 24 /r, R361. -/
  | movRTr (r : Reg) (code : BitVec 3)
  /-- 0F 26 /r, R361. -/
  | movTrR (code : BitVec 3) (r : Reg)
  /-- 0F A3 /r, R211. -/
  | btRmvRv (rm : RM) (r : Reg)
  /-- 0F A4 /r ib, R429. -/
  | shldImm8 (rm : RM) (r : Reg) (imm : BitVec 8)
  /-- 0F A5 /r, R429. -/
  | shldCl (rm : RM) (r : Reg)
  /-- 0F AB /r, R215. -/
  | btsRmvRv (rm : RM) (r : Reg)
  /-- 0F AC /r ib, R430. -/
  | shrdImm8 (rm : RM) (r : Reg) (imm : BitVec 8)
  /-- 0F AD /r, R430. -/
  | shrdCl (rm : RM) (r : Reg)
  /-- 0F AF /r, R273. -/
  | imulRvRmv (r : Reg) (rm : RM)
  /-- 0F B2 /r, R340. -/
  | lss (r : Reg) (rm : RM)
  /-- 0F B3 /r, R214. -/
  | btrRmvRv (rm : RM) (r : Reg)
  /-- 0F B4 /r, R340. -/
  | lfs (r : Reg) (rm : RM)
  /-- 0F B5 /r, R340. -/
  | lgs (r : Reg) (rm : RM)
  /-- 0F B6 /r, R364. -/
  | movzxRm8 (r : Reg) (rm : RM)
  /-- 0F B7 /r, R364. -/
  | movzxRm16 (r : Reg) (rm : RM)
  /-- 0F BA /4 ib, R211. -/
  | btRmvImm8 (rm : RM) (imm : BitVec 8)
  /-- 0F BA /5 ib, R215. -/
  | btsRmvImm8 (rm : RM) (imm : BitVec 8)
  /-- 0F BA /6 ib, R214. -/
  | btrRmvImm8 (rm : RM) (imm : BitVec 8)
  /-- 0F BA /7 ib, R212. -/
  | btcRmvImm8 (rm : RM) (imm : BitVec 8)
  /-- 0F BB /r, R212. -/
  | btcRmvRv (rm : RM) (r : Reg)
  /-- 0F BC /r, R209. -/
  | bsf (r : Reg) (rm : RM)
  /-- 0F BD /r, R210. -/
  | bsr (r : Reg) (rm : RM)
  /-- 0F BE /r, R363. -/
  | movsxRm8 (r : Reg) (rm : RM)
  /-- 0F BF /r, R363. -/
  | movsxRm16 (r : Reg) (rm : RM)
  /-- 06, R393. -/
  | pushEs
  /-- 0E, R393. -/
  | pushCs
  /-- 16, R393. -/
  | pushSs
  /-- 1E, R393. -/
  | pushDs
  /-- 07, R390. -/
  | popEs
  /-- 17, R390. -/
  | popSs
  /-- 1F, R390. -/
  | popDs
  /-- 0F A0, R393. -/
  | pushFs
  /-- 0F A1, R390. -/
  | popFs
  /-- 0F A8, R393. -/
  | pushGs
  /-- 0F A9, R390. -/
  | popGs
  /-- 26, R141. -/
  | segEs
  /-- 2E, R141. -/
  | segCs
  /-- 36, R141. -/
  | segSs
  /-- 3E, R141. -/
  | segDs
  /-- 64, R141. -/
  | segFs
  /-- 65, R141. -/
  | segGs
  /-- 66, R141. -/
  | opsize
  /-- 67, R141. -/
  | addrsize
  /-- F0, R343. -/
  | lock
  /-- F2, R408. -/
  | repne
  /-- F3, R408. -/
  | rep
  /-- 27, R249. -/
  | daa
  /-- 2F, R250. -/
  | das
  /-- 37, R200. -/
  | aaa
  /-- 3F, R203. -/
  | aas
  /-- 60, R394. -/
  | pusha
  /-- 61, R391. -/
  | popa
  /-- 6C, R276. -/
  | insB
  /-- 6D, R276. -/
  | insV
  /-- 6E, R373. -/
  | outsB
  /-- 6F, R373. -/
  | outsV
  /-- 90, R369. -/
  | nop
  /-- 98, R240. -/
  | cbw
  /-- 99, R248. -/
  | cwd
  /-- 9B, R441. -/
  | wait
  /-- 9C, R395. -/
  | pushf
  /-- 9D, R392. -/
  | popf
  /-- 9E, R420. -/
  | sahf
  /-- 9F, R330. -/
  | lahf
  /-- A4, R362. -/
  | movsB
  /-- A5, R362. -/
  | movsV
  /-- A6, R247. -/
  | cmpsB
  /-- A7, R247. -/
  | cmpsV
  /-- AA, R436. -/
  | stosB
  /-- AB, R436. -/
  | stosV
  /-- AC, R344. -/
  | lodsB
  /-- AD, R344. -/
  | lodsV
  /-- AE, R426. -/
  | scasB
  /-- AF, R426. -/
  | scasV
  /-- C3, R410. -/
  | retNear
  /-- C9, R333. -/
  | leave
  /-- CB, R411. -/
  | retFar
  /-- CC, R290. -/
  | int3
  /-- CE, R290. -/
  | into
  /-- CF, R298. -/
  | iret
  /-- D7, R443. -/
  | xlat
  /-- EC, R274. -/
  | inAlDx
  /-- ED, R274. -/
  | inEaxDx
  /-- EE, R372. -/
  | outDxAl
  /-- EF, R372. -/
  | outDxEax
  /-- F4, R271. -/
  | hlt
  /-- F5, R245. -/
  | cmc
  /-- F8, R241. -/
  | clc
  /-- F9, R433. -/
  | stc
  /-- FA, R243. -/
  | cli
  /-- FB, R435. -/
  | sti
  /-- FC, R242. -/
  | cld
  /-- FD, R434. -/
  | std
  /-- 0F 06, R244. -/
  | clts
deriving DecidableEq, Repr

end Sys2Proof
end

