-- ==== Sys2Proof/Machine/State.lean ====
section
/-! DEFINITION. Machine/State.lean: the machine's state, all of it plain data, and the state after reset. -/

namespace Sys2Proof.Machine

/-- The eight general registers (R30). -/
structure Gpr where
  eax : BitVec 32
  ecx : BitVec 32
  edx : BitVec 32
  ebx : BitVec 32
  esp : BitVec 32
  ebp : BitVec 32
  esi : BitVec 32
  edi : BitVec 32
deriving DecidableEq, Repr

/-- The flags of EFLAGS (R33). The reserved bits are fixed and hold no storage. -/
structure Flags where
  cf : Bool
  pf : Bool
  af : Bool
  zf : Bool
  sf : Bool
  tf : Bool
  intf : Bool
  df : Bool
  ofl : Bool
  iopl : BitVec 2
  nt : Bool
  rf : Bool
  vm : Bool
deriving DecidableEq, Repr

/-- A segment register: the selector and the hidden part (R37, R51). `rw` is readable for code and writable for data;
`ce` is conforming for code and expand-down for data. The limit is in bytes. -/
structure SegReg where
  sel : BitVec 16
  valid : Bool
  base : BitVec 32
  limit : BitVec 32
  code : Bool
  rw : Bool
  ce : Bool
  dpl : BitVec 2
  present : Bool
  db : Bool
deriving DecidableEq, Repr

/-- The six segment registers (R37). -/
structure Segs where
  es : SegReg
  cs : SegReg
  ss : SegReg
  ds : SegReg
  fs : SegReg
  gs : SegReg
deriving DecidableEq, Repr

/-- GDTR and IDTR (R40). -/
structure TableReg where
  base : BitVec 32
  limit : BitVec 16
deriving DecidableEq, Repr

/-- LDTR and TR (R41, R51). `is386` is the type of the task state segment, 80386 or 80286; LDTR does not use it. -/
structure SysReg where
  sel : BitVec 16
  valid : Bool
  base : BitVec 32
  limit : BitVec 32
  is386 : Bool
deriving DecidableEq, Repr

/-- The memory-management registers (R40, R41). -/
structure Tables where
  gdtr : TableReg
  idtr : TableReg
  ldtr : SysReg
  tr : SysReg
deriving DecidableEq, Repr

/-- The bits of CR0 (R42). Its bits 30:5 are discarded on a write and read as 0 (D34). -/
structure Cr0 where
  pe : Bool
  mp : Bool
  em : Bool
  ts : Bool
  et : Bool
  pg : Bool
deriving DecidableEq, Repr

/-- The control, debug and test registers (R42 to R45). -/
structure Ctrl where
  cr0 : Cr0
  cr2 : BitVec 32
  cr3 : BitVec 32
  dr0 : BitVec 32
  dr1 : BitVec 32
  dr2 : BitVec 32
  dr3 : BitVec 32
  dr6 : BitVec 32
  dr7 : BitVec 32
  tr6 : BitVec 32
  tr7 : BitVec 32
deriving DecidableEq, Repr

/-- A prefix of the LOCK and repeat group (R141). -/
inductive GroupPrefix where
  | lock | repne | rep
deriving DecidableEq, Repr

/-- The prefixes of the instruction in progress (R141). -/
structure Prefixes where
  seg : Option SReg
  opsize : Bool
  addrsize : Bool
  group : Option GroupPrefix
deriving DecidableEq, Repr

/-- The interrupt-inhibit state (R48): none, maskable interrupts only (STI), or all of them (MOV SS, POP SS). -/
inductive Inhibit where
  | none | maskable | all
deriving DecidableEq, Repr

/-- The hidden sequencing state: the first byte and the prefixes of the instruction in progress (R471, R141), the
inhibit state and the one in force during the instruction in progress (R48), halted and shutdown (R52), NMI held off
until IRET (R469), TF at the start of the instruction (R477), a switch of PE that no jump has followed yet (R502), and the linear addresses of the bytes stored within the
prefetch window since the last taken control transfer (R107). -/
structure Seq where
  startEip : BitVec 32
  pfx : Prefixes
  inhibit : Inhibit
  held : Inhibit
  halted : Bool
  shutdown : Bool
  nmiBlocked : Bool
  stepTrap : Bool
  peSwitch : Bool
  stale : List (BitVec 32)
deriving DecidableEq, Repr

/-- The input pins (R47, R469): a maskable request with its vector, NMI, RESET, BUSY# and ERROR#, true when asserted. -/
structure Pins where
  intr : Option (BitVec 8)
  nmi : Bool
  reset : Bool
  busy : Bool
  error : Bool
deriving DecidableEq, Repr

/-- An access to the I/O space (R108): the port, the number of bytes and the value read or written. -/
inductive IoEvent where
  | input (port : BitVec 16) (bytes : Nat) (value : BitVec 32)
  | output (port : BitVec 16) (bytes : Nat) (value : BitVec 32)
deriving DecidableEq, Repr

/-- Memory by physical address: the bytes that differ from what an unlisted address reads as, addresses rising. -/
abbrev Memory := List Host.Cell

/-- The state of the machine. `draws` is the model's own field: the number of free values taken so far (D14). -/
structure State where
  gpr : Gpr
  eip : BitVec 32
  flags : Flags
  segs : Segs
  tables : Tables
  ctrl : Ctrl
  seq : Seq
  pins : Pins
  io : List IoEvent
  draws : Nat
  mem : Memory
deriving DecidableEq, Repr

/-- Why the machine stops with a fault. -/
inductive Fault where
  /-- Raised by a memory access whose translated address lies outside the physical address space (R90). Safe: the spec
  gives such an access no effect. -/
  | noSuchPhysicalAddress
deriving DecidableEq, Repr

/-- Why a step has no meaning in this model. Each is one the spec itself refuses or leaves without an effect. -/
inductive Refusal where
  /-- Raised by an arm of exec that has no meaning yet. Safe: nothing can be proved of what it would do. -/
  | notModelled (mnemonic : String)
  /-- Raised where SWITCH-TASKS would run (D8). Safe: the spec refuses the task switch. -/
  | taskSwitch
  /-- Raised by a second, different prefix of one kind (D16). Safe: the spec refuses it. -/
  | conflictingPrefix
  /-- Raised by a run of repeated prefixes longer than the step reads (D16). Safe: the spec refuses it. -/
  | prefixRun
  /-- Raised by executing a byte stored within the prefetch window with no taken control transfer since (R107, D4).
  Safe: the spec refuses it. -/
  | prefetchWindow
  /-- Raised by an instruction after a switch of PE that is no taken control transfer (R502, D4). Safe: the spec
  refuses it. -/
  | modeSwitchWithoutJump
  /-- Raised by a port access that runs past port FFFFH (R108, D27). Safe: the spec refuses it. -/
  | ioPastEnd
  /-- Raised by an interrupt in V86 mode through a 16-bit gate or with an 80286 task state segment (R295). Safe: the
  spec gives that entry no effect. -/
  | gate16FromV86
  /-- Raised by ESC when a coprocessor is attached (D22). Safe: the spec says nothing of its behaviour. -/
  | coprocessor
deriving DecidableEq, Repr

/-- A segment register as a load in Real Address Mode leaves it (R99): base 16 times the selector, limit FFFFH,
readable and writable. -/
def SegReg.real (sel : BitVec 16) : SegReg :=
  { sel := sel, valid := true, base := sel.setWidth 32 * 16, limit := 0xFFFF, code := false, rw := true, ce := false,
    dpl := 0, present := true, db := false }

/-- No prefix seen. -/
def Prefixes.empty : Prefixes := { seg := none, opsize := false, addrsize := false, group := none }

/-- Every flag clear: EFLAGS = 00000002H (R500). -/
def Flags.reset : Flags :=
  { cf := false, pf := false, af := false, zf := false, sf := false, tf := false, intf := false, df := false,
    ofl := false, iopl := 0, nt := false, rf := false, vm := false }

/-- CS after reset: selector F000H with base FFFF0000H (R500). -/
def SegReg.resetCs : SegReg := { SegReg.real 0xF000 with base := 0xFFFF0000 }

/-- LDTR and TR after reset: null selector, invalid (R500). DESIGN CHOICE (log 4): base, limit 0 and type 386. -/
def SysReg.reset : SysReg := { sel := 0, valid := false, base := 0, limit := 0, is386 := true }

/-- The hidden sequencing state after reset: inhibit, halted and shutdown clear (R500). -/
def Seq.reset : Seq :=
  { startEip := 0, pfx := Prefixes.empty, inhibit := .none, held := .none, halted := false,
    shutdown := false, nmiBlocked := false, stepTrap := false, peSwitch := false, stale := [] }

/-- The machine after RESET (R500). DESIGN CHOICE (log 1 to 4, unsafe): every value the rule calls undefined is 0 here,
and memory, which reset does not change, lists nothing. -/
def State.reset : State :=
  { gpr := { eax := 0, ecx := 0, edx := 0, ebx := 0, esp := 0, ebp := 0, esi := 0, edi := 0 }
    eip := 0x0000FFF0
    flags := Flags.reset
    segs := { es := SegReg.real 0, cs := SegReg.resetCs, ss := SegReg.real 0, ds := SegReg.real 0,
              fs := SegReg.real 0, gs := SegReg.real 0 }
    tables := { gdtr := { base := 0, limit := 0 }, idtr := { base := 0, limit := 0x3FF },
                ldtr := SysReg.reset, tr := SysReg.reset }
    ctrl := { cr0 := { pe := false, mp := false, em := false, ts := false, et := false, pg := false },
              cr2 := 0, cr3 := 0, dr0 := 0, dr1 := 0, dr2 := 0, dr3 := 0, dr6 := 0, dr7 := 0, tr6 := 0, tr7 := 0 }
    seq := Seq.reset
    pins := { intr := none, nmi := false, reset := false, busy := false, error := false }
    io := []
    draws := 0
    mem := [] }

end Sys2Proof.Machine
end

