-- ==== Sys2Proof/Machine/Flags.lean ====
section
/-! DEFINITION. Machine/Flags.lean: the EFLAGS image, the flag computations (R33, R34) and the conditions (R35). -/

namespace Sys2Proof.Machine

/-- The EFLAGS image: bit 1 reads 1, the other reserved bits read 0 (R33). -/
def Flags.image (f : Flags) : BitVec 32 :=
  0#14 ++ BitVec.ofBool f.vm ++ BitVec.ofBool f.rf ++ 0#1 ++ BitVec.ofBool f.nt ++ f.iopl ++ BitVec.ofBool f.ofl ++
    BitVec.ofBool f.df ++ BitVec.ofBool f.intf ++ BitVec.ofBool f.tf ++ BitVec.ofBool f.sf ++ BitVec.ofBool f.zf ++
    0#1 ++ BitVec.ofBool f.af ++ 0#1 ++ BitVec.ofBool f.pf ++ 1#1 ++ BitVec.ofBool f.cf

/-- The flags of an EFLAGS image; the reserved bits are dropped (R33). -/
def Flags.ofImage (v : BitVec 32) : Flags :=
  { cf := v.getLsbD 0, pf := v.getLsbD 2, af := v.getLsbD 4, zf := v.getLsbD 6, sf := v.getLsbD 7, tf := v.getLsbD 8,
    intf := v.getLsbD 9, df := v.getLsbD 10, ofl := v.getLsbD 11, iopl := v.extractLsb' 12 2, nt := v.getLsbD 14,
    rf := v.getLsbD 16, vm := v.getLsbD 17 }

/-- The flags that POPF and POPFD load at privilege level `cpl` (R392): IOPL only at level 0, IF only at a level at
least as privileged as IOPL, never VM and RF. -/
def Flags.loadPopf (f : Flags) (cpl : BitVec 2) (v : BitVec 32) : Flags :=
  { Flags.ofImage v with
    iopl := if cpl = 0 then (Flags.ofImage v).iopl else f.iopl
    intf := if cpl ≤ f.iopl then (Flags.ofImage v).intf else f.intf
    rf := f.rf
    vm := f.vm }

/-- The flags that IRET and IRETD load (R298): as POPF, and from a doubleword image also RF, and VM at level 0. -/
def Flags.loadIret (f : Flags) (cpl : BitVec 2) (size : Size) (v : BitVec 32) : Flags :=
  match size with
  | .s16 => f.loadPopf cpl v
  | .s32 =>
    { f.loadPopf cpl v with
      rf := (Flags.ofImage v).rf
      vm := if cpl = 0 then (Flags.ofImage v).vm else f.vm }

/-- Even number of 1 bits in the low-order eight bits (R34). -/
def parityEven {n : Nat} (r : BitVec n) : Bool :=
  !(r.getLsbD 0 ^^ r.getLsbD 1 ^^ r.getLsbD 2 ^^ r.getLsbD 3 ^^ r.getLsbD 4 ^^ r.getLsbD 5 ^^ r.getLsbD 6 ^^ r.getLsbD 7)

/-- SZP: ZF, SF and PF from a result (R34). -/
def Flags.szp {n : Nat} (f : Flags) (r : BitVec n) : Flags :=
  { f with zf := r == 0, sf := r.msb, pf := parityEven r }

/-- FlagsAdd: the six status flags of `a + b + c` (R34). -/
def Flags.add {n : Nat} (f : Flags) (a b : BitVec n) (c : Bool) : Flags :=
  let r := a + b + BitVec.ofNat n c.toNat
  { f.szp r with
    cf := decide (2 ^ n ≤ a.toNat + b.toNat + c.toNat)
    af := decide (16 ≤ a.toNat % 16 + b.toNat % 16 + c.toNat)
    ofl := a.msb == b.msb && r.msb != a.msb }

/-- FlagsSub: the six status flags of `a - b - c` (R34). -/
def Flags.sub {n : Nat} (f : Flags) (a b : BitVec n) (c : Bool) : Flags :=
  let r := a - b - BitVec.ofNat n c.toNat
  { f.szp r with
    cf := decide (a.toNat < b.toNat + c.toNat)
    af := decide (a.toNat % 16 < b.toNat % 16 + c.toNat)
    ofl := a.msb != b.msb && r.msb != a.msb }

/-- FlagsLogic without AF, which is undefined (R34): CF and OF cleared, ZF, SF and PF from the result. -/
def Flags.logic {n : Nat} (f : Flags) (r : BitVec n) : Flags :=
  { f.szp r with cf := false, ofl := false }

/-- The six status flags, which an instruction may leave undefined (R9). -/
inductive StatusFlag where
  | cf | pf | af | zf | sf | ofl
deriving DecidableEq, Repr

/-- The bit of EFLAGS that holds a status flag (R33). -/
def StatusFlag.bit : StatusFlag → Nat
  | .cf => 0 | .pf => 2 | .af => 4 | .zf => 6 | .sf => 7 | .ofl => 11

/-- Sets one status flag. -/
def Flags.set (f : Flags) : StatusFlag → Bool → Flags
  | .cf, b => { f with cf := b }
  | .pf, b => { f with pf := b }
  | .af, b => { f with af := b }
  | .zf, b => { f with zf := b }
  | .sf, b => { f with sf := b }
  | .ofl, b => { f with ofl := b }

/-- Takes the given flags from the bits of a free value. -/
def Flags.setFrom (f : Flags) (v : BitVec 32) : List StatusFlag → Flags
  | [] => f
  | x :: t => (f.set x (v.getLsbD x.bit)).setFrom v t

/-- One free value (D14): the word of the current draw, and the state with the draw counted. -/
def State.draw (s : State) : BitVec 32 × State := (Config.freeBits s.draws, { s with draws := s.draws + 1 })

/-- Leaves the given flags undefined: any value each, at each execution (R9, D14). -/
def State.undefineFlags (s : State) (fs : List StatusFlag) : State :=
  { s with flags := s.flags.setFrom (Config.freeBits s.draws) fs, draws := s.draws + 1 }

/-- Cond(n): the condition with a four-bit subcode (R35). Odd subcodes negate the even one below. -/
def Flags.cond (f : Flags) (n : Nat) : Bool :=
  match n with
  | 0 => f.ofl
  | 1 => !f.ofl
  | 2 => f.cf
  | 3 => !f.cf
  | 4 => f.zf
  | 5 => !f.zf
  | 6 => f.cf || f.zf
  | 7 => !(f.cf || f.zf)
  | 8 => f.sf
  | 9 => !f.sf
  | 10 => f.pf
  | 11 => !f.pf
  | 12 => f.sf ^^ f.ofl
  | 13 => !(f.sf ^^ f.ofl)
  | 14 => (f.sf ^^ f.ofl) || f.zf
  | _ => !((f.sf ^^ f.ofl) || f.zf)

end Sys2Proof.Machine
end

