-- ==== Sys2Proof/Machine/Memory.lean ====
section
/-! DEFINITION. Machine/Memory.lean: physical memory as a canonical list of bytes, and the byte order. -/

namespace Sys2Proof.Machine

/-- What a byte that memory does not list reads as. DESIGN CHOICE (log 1, unsafe): the spec gives no contents. -/
def unlistedByte : Byte := 0

/-- The byte at a physical address. -/
def memByte : Memory → Nat → Byte
  | [], _ => unlistedByte
  | (k, b) :: t, a => if a = k then b else memByte t a

/-- Writes the byte at a physical address and keeps the canonical form. -/
def memSet : Memory → Nat → Byte → Memory
  | [], a, v => if v = unlistedByte then [] else [(a, v)]
  | (k, b) :: t, a, v =>
    if a < k then (if v = unlistedByte then (k, b) :: t else (a, v) :: (k, b) :: t)
    else if a = k then (if v = unlistedByte then t else (a, v) :: t)
    else (k, b) :: memSet t a v

/-- Every address is at least `lo`, addresses rise strictly, and no entry is what an unlisted byte reads as. -/
def memWfFrom : Nat → Memory → Bool
  | _, [] => true
  | lo, (k, b) :: t => decide (lo ≤ k) && b != unlistedByte && memWfFrom (k + 1) t

/-- The canonical form of memory. -/
def Memory.wf (m : Memory) : Bool := memWfFrom 0 m

/-- The value of bytes in ascending address order: little-endian (R91). -/
def leNat : List Byte → Nat
  | [] => 0
  | b :: t => b.toNat + 256 * leNat t

/-- The `n` bytes of a value in ascending address order: little-endian (R91). -/
def leBytes : Nat → Nat → List Byte
  | 0, _ => []
  | n + 1, v => BitVec.ofNat 8 v :: leBytes n (v / 256)

/-- Reads the bytes at the given physical addresses. -/
def memBytes (m : Memory) (ps : List Nat) : List Byte := ps.map (memByte m)

/-- Writes bytes at the given physical addresses, one by one in order (R102). -/
def memSetBytes : Memory → List Nat → List Byte → Memory
  | m, p :: ps, b :: bs => memSetBytes (memSet m p b) ps bs
  | m, _, _ => m

end Sys2Proof.Machine
end

