-- ==== Sys2Proof/Machine/Operands.lean ====
section
/-! DEFINITION. Machine/Operands.lean: modes, size attributes, registers at each width, and effective addresses. -/

namespace Sys2Proof

/-- The doubleword register that holds a byte register: codes 4 to 7 are AH, CH, DH, BH (R31). -/
def Reg.byteHome : Reg → Reg
  | .eax => .eax | .ecx => .ecx | .edx => .edx | .ebx => .ebx
  | .esp => .eax | .ebp => .ecx | .esi => .edx | .edi => .ebx

/-- The byte register is bits 15:8 of its doubleword register (R30). -/
def Reg.isHigh : Reg → Bool
  | .esp => true | .ebp => true | .esi => true | .edi => true
  | .eax => false | .ecx => false | .edx => false | .ebx => false

/-- The segment register of a three-bit code; codes 6 and 7 name none (R31, R155). -/
def SReg.ofCode (c : BitVec 3) : Option SReg :=
  match c.toNat with
  | 0 => some .es | 1 => some .cs | 2 => some .ss | 3 => some .ds | 4 => some .fs | 5 => some .gs | _ => none

/-- A size-dependent field as a doubleword, zero-extended. -/
def VImm.zext : VImm → BitVec 32
  | .w16 v => v.setWidth 32
  | .w32 v => v

/-- A size-dependent field as a doubleword, sign-extended. -/
def VImm.sext : VImm → BitVec 32
  | .w16 v => v.signExtend 32
  | .w32 v => v

/-- A size-dependent field at a width (R149). -/
def VImm.at (i : VImm) (w : Width) : BitVec w.bits := i.zext.setWidth _

end Sys2Proof

namespace Sys2Proof.Machine

/-! ### Modes and size attributes -/

/-- Real Address Mode: PE = 0 (R11). -/
def State.realMode (s : State) : Bool := !s.ctrl.cr0.pe

/-- Virtual 8086 Mode: PE = 1 and VM = 1 (R11). -/
def State.v86Mode (s : State) : Bool := s.ctrl.cr0.pe && s.flags.vm

/-- Protected Mode: PE = 1 and VM = 0 (R11). -/
def State.protectedMode (s : State) : Bool := s.ctrl.cr0.pe && !s.flags.vm

/-- The requested privilege level of a selector: its low two bits (R38). -/
def rpl (sel : BitVec 16) : BitVec 2 := sel.extractLsb' 0 2

/-- CPL (R39): 0 in Real Address Mode, 3 in Virtual 8086 Mode, else the RPL of CS. -/
def State.cpl (s : State) : BitVec 2 :=
  if s.realMode then 0 else if s.v86Mode then 3 else rpl s.segs.cs.sel

/-- The default size D (R142): 16 bits outside Protected Mode, else by the D bit of CS. -/
def State.defaultD (s : State) : Bool := s.protectedMode && s.segs.cs.db

/-- A size attribute from the default and the presence of its prefix byte (R142). -/
def sizeOf32 (is32 : Bool) : Size := if is32 then .s32 else .s16

/-- OperandSize (R142). -/
def State.opSize (s : State) : Size := sizeOf32 (s.defaultD ^^ s.seq.pfx.opsize)

/-- AddressSize (R142). -/
def State.addrSize (s : State) : Size := sizeOf32 (s.defaultD ^^ s.seq.pfx.addrsize)

/-- StackAddrSize (R3): 16 bits outside Protected Mode, else by the B bit of SS. -/
def State.stackSize (s : State) : Size := sizeOf32 (s.protectedMode && s.segs.ss.db)

/-! ### Registers -/

/-- A doubleword register (R31). -/
def Gpr.get (g : Gpr) : Reg → BitVec 32
  | .eax => g.eax | .ecx => g.ecx | .edx => g.edx | .ebx => g.ebx
  | .esp => g.esp | .ebp => g.ebp | .esi => g.esi | .edi => g.edi

/-- Writes a doubleword register (R31). -/
def Gpr.set (g : Gpr) : Reg → BitVec 32 → Gpr
  | .eax, v => { g with eax := v }
  | .ecx, v => { g with ecx := v }
  | .edx, v => { g with edx := v }
  | .ebx, v => { g with ebx := v }
  | .esp, v => { g with esp := v }
  | .ebp, v => { g with ebp := v }
  | .esi, v => { g with esi := v }
  | .edi, v => { g with edi := v }

/-- Replaces bits 15:0; the other bits keep their value (R30). -/
def setLow16 (old : BitVec 32) (v : BitVec 16) : BitVec 32 := old.extractLsb' 16 16 ++ v

/-- Replaces bits 7:0 or 15:8; the other bits keep their value (R30). -/
def setByte (old : BitVec 32) (high : Bool) (v : BitVec 8) : BitVec 32 :=
  if high then old.extractLsb' 16 16 ++ v ++ old.extractLsb' 0 8 else old.extractLsb' 8 24 ++ v

/-- The register with a code at a width (R31). -/
def Gpr.read (g : Gpr) : (w : Width) → Reg → BitVec w.bits
  | .b8, r => (g.get r.byteHome).extractLsb' (if r.isHigh then 8 else 0) 8
  | .w16, r => (g.get r).extractLsb' 0 16
  | .d32, r => g.get r

/-- Writes the register with a code at a width; a byte or word write keeps the other bits (R30, R31). -/
def Gpr.write (g : Gpr) : (w : Width) → Reg → BitVec w.bits → Gpr
  | .b8, r, v => g.set r.byteHome (setByte (g.get r.byteHome) r.isHigh v)
  | .w16, r, v => g.set r (setLow16 (g.get r) v)
  | .d32, r, v => g.set r v

/-- The register with a code at a width. -/
def State.reg (s : State) (w : Width) (r : Reg) : BitVec w.bits := s.gpr.read w r

/-- The state with a register written at a width. -/
def State.setReg (s : State) (w : Width) (r : Reg) (v : BitVec w.bits) : State := { s with gpr := s.gpr.write w r v }

/-- A register at the width of a size attribute, zero-extended: "eSI", "eCX" and the like (R30). -/
def State.eReg (s : State) (sz : Size) (r : Reg) : BitVec 32 := (s.reg sz.width r).setWidth 32

/-- Writes the low bits of a register at the width of a size attribute (R30). -/
def State.setEReg (s : State) (sz : Size) (r : Reg) (v : BitVec 32) : State := s.setReg sz.width r (v.setWidth _)

/-- The value of a doubleword cut to a size attribute: an offset of AddressSize bits, or EIP AND 0000FFFFH (R32). -/
def truncSize (sz : Size) (v : BitVec 32) : BitVec 32 :=
  match sz with
  | .s16 => (v.setWidth 16).setWidth 32
  | .s32 => v

end Sys2Proof.Machine

namespace Sys2Proof

open Machine

/-! ### Effective addresses -/

/-- A displacement, a byte sign-extended (R148). -/
def Disp.value {n : Nat} : Disp n → BitVec n
  | .none => 0
  | .short d => d.signExtend n
  | .full d => d

/-- The sum of the base registers of a 16-bit form, modulo 2^16 (R145). -/
def Base16.value (g : Gpr) : Base16 → BitVec 16
  | .bxsi => g.read .w16 .ebx + g.read .w16 .esi
  | .bxdi => g.read .w16 .ebx + g.read .w16 .edi
  | .bpsi => g.read .w16 .ebp + g.read .w16 .esi
  | .bpdi => g.read .w16 .ebp + g.read .w16 .edi
  | .si => g.read .w16 .esi
  | .di => g.read .w16 .edi
  | .bp => g.read .w16 .ebp
  | .bx => g.read .w16 .ebx

/-- The scaled index of a SIB byte (R147). -/
def indexValue (g : Gpr) (scale : BitVec 2) : Option Reg → BitVec 32
  | none => 0
  | some r => g.get r <<< scale.toNat

/-- The effective address, zero-extended from the address size (R93, R145 to R147). -/
def EA.offset (g : Gpr) : EA → BitVec 32
  | .a16 b d => (b.value g + d.value).setWidth 32
  | .a16abs d => d.setWidth 32
  | .a32 b d => g.get b + d.value
  | .a32abs d => d
  | .sib sc x b d => g.get b + indexValue g sc x + d.value
  | .sibNoBase sc x d => indexValue g sc x + d

/-- The default segment: SS for a BP, EBP or ESP base, DS otherwise (R96). -/
def EA.defaultSeg : EA → SReg
  | .a16 .bpsi _ => .ss
  | .a16 .bpdi _ => .ss
  | .a16 .bp _ => .ss
  | .a16 _ _ => .ds
  | .a16abs _ => .ds
  | .a32 .ebp _ => .ss
  | .a32 .esp _ => .ss
  | .a32 _ _ => .ds
  | .a32abs _ => .ds
  | .sib _ _ .ebp _ => .ss
  | .sib _ _ .esp _ => .ss
  | .sib _ _ _ _ => .ds
  | .sibNoBase _ _ _ => .ds

/-- The address size an addressing form belongs to. -/
def EA.size : EA → Size
  | .a16 _ _ => .s16
  | .a16abs _ => .s16
  | .a32 _ _ => .s32
  | .a32abs _ => .s32
  | .sib _ _ _ _ => .s32
  | .sibNoBase _ _ _ => .s32

end Sys2Proof

namespace Sys2Proof.Machine

/-! ### Segment registers -/

/-- A segment register. -/
def Segs.get (g : Segs) : SReg → SegReg
  | .es => g.es | .cs => g.cs | .ss => g.ss | .ds => g.ds | .fs => g.fs | .gs => g.gs

/-- Writes a segment register, its selector and its hidden part. -/
def Segs.set (g : Segs) : SReg → SegReg → Segs
  | .es, v => { g with es := v }
  | .cs, v => { g with cs := v }
  | .ss, v => { g with ss := v }
  | .ds, v => { g with ds := v }
  | .fs, v => { g with fs := v }
  | .gs, v => { g with gs := v }

/-- A segment register of the state. -/
def State.seg (s : State) (r : SReg) : SegReg := s.segs.get r

/-- The state with a segment register written. -/
def State.setSeg (s : State) (r : SReg) (v : SegReg) : State := { s with segs := s.segs.set r v }

/-- The segment of a memory operand: the override of the instruction, else `dflt` (R96, R141). -/
def State.dataSeg (s : State) (dflt : SReg) : SReg := s.seq.pfx.seg.getD dflt

/-- Adds to an offset within an address size: 16-bit addressing wraps modulo 2^16 (R93). -/
def addOffset (sz : Size) (off d : BitVec 32) : BitVec 32 := truncSize sz (off + d)

/-! ### Immediates -/

/-- An imm8 combined with a wider operand: sign-extended (R149). -/
def immSext (w : Width) (i : BitVec 8) : BitVec w.bits := i.signExtend _

end Sys2Proof.Machine
end

