-- ==== Sys2Proof/Machine/Segments.lean ====
section
/-! DEFINITION. Machine/Segments.lean: exceptions as values, memory through segments, descriptors and segment loads. -/

namespace Sys2Proof.Machine

/-! ### Exceptions as values -/

/-- An exception to be taken: the vector, the error code where the exception has one, and for a page fault the linear
address CR2 gets (R460, R461). -/
structure Exc where
  vec : BitVec 8
  code : Option (BitVec 16)
  cr2 : Option (BitVec 32)
deriving DecidableEq, Repr

/-- What can end a meaning before its next state: an exception, shutdown (R52), or a stop of the model. -/
inductive Stop where
  | exc (e : Exc)
  | shutdown
  | refuse (r : Refusal)
  | fault (f : Fault)
deriving DecidableEq, Repr

/-- A value or a stop. -/
abbrev Res (α : Type) := Except Stop α

/-- `raise` of R2. -/
def raise {α : Type} (e : Exc) : Res α := .error (.exc e)

/-- The check `c else e` of the spec's pseudocode. -/
def need (c : Bool) (e : Exc) : Res Unit := if c then .ok () else raise e

/-- An exception without an error code (R460). -/
def Exc.plain (v : BitVec 8) : Exc := { vec := v, code := none, cr2 := none }

/-- An exception with an error code (R460). -/
def Exc.coded (v : BitVec 8) (c : BitVec 16) : Exc := { vec := v, code := some c, cr2 := none }

/-- Interrupt 0, the divide error (R460). -/
def excDE : Exc := .plain 0

/-- Interrupt 5, the bounds test (R460). -/
def excBR : Exc := .plain 5

/-- #UD, vector 6 (R460). -/
def excUD : Exc := .plain 6

/-- #NM, vector 7 (R460). -/
def excNM : Exc := .plain 7

/-- #DF, vector 8, code 0 (R460). -/
def excDF : Exc := .coded 8 0

/-- #TS, vector 10 (R460). -/
def excTS (c : BitVec 16) : Exc := .coded 10 c

/-- #NP, vector 11 (R460). -/
def excNP (c : BitVec 16) : Exc := .coded 11 c

/-- #SS, vector 12 (R460). -/
def excSS (c : BitVec 16) : Exc := .coded 12 c

/-- #GP, vector 13 (R460). -/
def excGP (c : BitVec 16) : Exc := .coded 13 c

/-- #MF, vector 16 (R460). -/
def excMF : Exc := .plain 16

/-- The error code of a selector: its RPL bits cleared (R461). -/
def selCode (sel : BitVec 16) : BitVec 16 := sel &&& 0xFFFC

/-- #PF with its fault code: bit 0 protection, bit 1 write, bit 2 made at CPL 3 (R461), and the address for CR2. -/
def excPF (lin : BitVec 32) (protection write user : Bool) : Exc :=
  { vec := 14
    code := some (0#13 ++ BitVec.ofBool user ++ BitVec.ofBool write ++ BitVec.ofBool protection)
    cr2 := some lin }

/-! ### Linear and physical addresses -/

/-- The physical address of a linear one (R101, D9): the same, cut to PHYS_BITS, when PG = 0, else what Translate
gives. -/
def State.physAddr (s : State) (acc : Config.Access) (user : Bool) (lin : BitVec 32) : Res Nat :=
  if s.ctrl.cr0.pg then
    match Config.translate s.mem s.ctrl.cr3 lin acc user with
    | .ok p => if p.toNat < 2 ^ Config.physBits then .ok p.toNat else .error (.fault .noSuchPhysicalAddress)
    | .error prot => raise (excPF lin prot (acc == .write) user)
  else .ok (lin.toNat % 2 ^ Config.physBits)

/-- The physical addresses of `n` bytes from a linear address, in ascending order (R102). -/
def State.physAddrs (s : State) (acc : Config.Access) (user : Bool) : Nat → BitVec 32 → Res (List Nat)
  | 0, _ => .ok []
  | n + 1, lin =>
    match s.physAddr acc user lin with
    | .error e => .error e
    | .ok p =>
      match s.physAddrs acc user n (lin + 1) with
      | .error e => .error e
      | .ok ps => .ok (p :: ps)

/-- The `n` bytes at a linear address: LinRead of R2. -/
def State.linBytes (s : State) (user : Bool) (lin : BitVec 32) (n : Nat) : Res (List Byte) :=
  match s.physAddrs .read user n lin with
  | .error e => .error e
  | .ok ps => .ok (memBytes s.mem ps)

/-- The value at a linear address: LinRead of R2. -/
def State.linRead (s : State) (user : Bool) (w : Width) (lin : BitVec 32) : Res (BitVec w.bits) :=
  match s.linBytes user lin w.bytes with
  | .error e => .error e
  | .ok bs => .ok (BitVec.ofNat _ (leNat bs))

/-- Adds one linear address to the stored bytes that fetch may have missed, when it lies in the instruction itself or
within PREFETCH_WINDOW bytes of the next one (R107). DEDUCED (log 14, log 17, safe): the instruction's own bytes count,
because EIP still addresses them between the iterations of a repeated string instruction (R408). -/
def State.noteStore (s : State) (lin : BitVec 32) : State :=
  if (lin - (s.segs.cs.base + s.seq.startEip)).toNat < (s.eip - s.seq.startEip).toNat + Config.prefetchWindow ∧
      lin ∉ s.seq.stale then
    { s with seq := { s.seq with stale := lin :: s.seq.stale } }
  else s

/-- `noteStore` of `n` bytes. -/
def State.noteStores (s : State) : Nat → BitVec 32 → State
  | 0, _ => s
  | n + 1, lin => (s.noteStore lin).noteStores n (lin + 1)

/-- Writes bytes at a linear address. Every byte is translated before any is written (R471). -/
def State.linWriteBytes (s : State) (user : Bool) (lin : BitVec 32) (bs : List Byte) : Res State :=
  match s.physAddrs .write user bs.length lin with
  | .error e => .error e
  | .ok ps => .ok { s.noteStores bs.length lin with mem := memSetBytes s.mem ps bs }

/-- Writes a value at a linear address: LinWrite of R2. -/
def State.linWrite (s : State) (user : Bool) (w : Width) (lin : BitVec 32) (v : BitVec w.bits) : Res State :=
  s.linWriteBytes user lin (leBytes w.bytes v.toNat)

/-! ### Access through a segment -/

/-- The bytes `off .. off+n-1` lie within the segment limit (R94 item 2, D30). -/
def SegReg.inLimit (g : SegReg) (off n : Nat) : Bool :=
  if !g.code && g.ce then
    decide (g.limit.toNat < off) && decide (off + n ≤ if g.db then 2 ^ 32 else 2 ^ 16)
  else decide (off + n ≤ g.limit.toNat + 1)

/-- The segment's rights allow the access (R94 items 3 and 4, R95): reads of code must be readable, writes need a
writable data segment. -/
def SegReg.allows (g : SegReg) (write : Bool) : Bool := if write then !g.code && g.rw else !g.code || g.rw

/-- The exception of an illegal access through a segment register (R94): #SS(0) for SS and #GP(0) else in Protected
Mode, vector 13 for every segment elsewhere. -/
def State.accessExc (s : State) (r : SReg) : Exc :=
  if s.protectedMode && r == .ss then excSS 0 else excGP 0

/-- The checks of an access of `n` bytes at an offset (R94, R95). Rights are those of Protected Mode only; elsewhere
every segment is readable and writable (D18). -/
def State.accessOk (s : State) (r : SReg) (off : BitVec 32) (n : Nat) (write : Bool) : Bool :=
  (s.seg r).valid && (s.seg r).inLimit off.toNat n && (!s.protectedMode || (s.seg r).allows write)

/-- The linear address of an offset in a segment: base plus offset modulo 2^32 (R92). -/
def State.linear (s : State) (r : SReg) (off : BitVec 32) : BitVec 32 := (s.seg r).base + off

/-- The access is made at CPL 3 (R101). -/
def State.user (s : State) : Bool := s.cpl == 3

/-- `n` bytes through a segment register, after the checks of R94. -/
def State.memBytesAt (s : State) (r : SReg) (off : BitVec 32) (n : Nat) : Res (List Byte) :=
  if s.accessOk r off n false then s.linBytes s.user (s.linear r off) n else raise (s.accessExc r)

/-- MemRead of R2. -/
def State.memRead (s : State) (r : SReg) (w : Width) (off : BitVec 32) : Res (BitVec w.bits) :=
  if s.accessOk r off w.bytes false then s.linRead s.user w (s.linear r off) else raise (s.accessExc r)

/-- Bytes through a segment register, after the checks of R94 and R95. -/
def State.memWriteBytes (s : State) (r : SReg) (off : BitVec 32) (bs : List Byte) : Res State :=
  if s.accessOk r off bs.length true then s.linWriteBytes s.user (s.linear r off) bs else raise (s.accessExc r)

/-- MemWrite of R2. -/
def State.memWrite (s : State) (r : SReg) (w : Width) (off : BitVec 32) (v : BitVec w.bits) : Res State :=
  if s.accessOk r off w.bytes true then s.linWrite s.user w (s.linear r off) v else raise (s.accessExc r)

/-- The write check that precedes the read of a read-modify-write instruction (R95). With PG = 1 the bytes are translated
for write here, before the read translates them: DESIGN CHOICE (log 59, unsafe). -/
def State.writeCheck (s : State) (r : SReg) (off : BitVec 32) (n : Nat) : Res Unit :=
  if s.accessOk r off n true then
    match s.physAddrs .write s.user n (s.linear r off) with
    | .error e => .error e
    | .ok _ => .ok ()
  else raise (s.accessExc r)

/-! ### Descriptors -/

/-- A descriptor as two doublewords (R111). -/
structure Desc where
  lo : BitVec 32
  hi : BitVec 32
deriving DecidableEq, Repr

/-- The S bit: a code or data segment (R111). -/
def Desc.isSeg (d : Desc) : Bool := d.hi.getLsbD 12

/-- The type field, bits 11:8 of the high doubleword (R111). -/
def Desc.typ (d : Desc) : BitVec 4 := d.hi.extractLsb' 8 4

/-- The descriptor privilege level (R111). -/
def Desc.dpl (d : Desc) : BitVec 2 := d.hi.extractLsb' 13 2

/-- The present bit (R111). -/
def Desc.present (d : Desc) : Bool := d.hi.getLsbD 15

/-- A code segment (R111). -/
def Desc.isCode (d : Desc) : Bool := d.isSeg && d.hi.getLsbD 11

/-- A data segment (R111). -/
def Desc.isData (d : Desc) : Bool := d.isSeg && !d.hi.getLsbD 11

/-- Bit 9: readable for code, writable for data (R111). -/
def Desc.rw (d : Desc) : Bool := d.hi.getLsbD 9

/-- Bit 10: conforming for code, expand-down for data (R111). -/
def Desc.ce (d : Desc) : Bool := d.hi.getLsbD 10

/-- A conforming code segment (R111). -/
def Desc.conforming (d : Desc) : Bool := d.isCode && d.ce

/-- A data segment or a readable code segment (R97). -/
def Desc.readable (d : Desc) : Bool := d.isData || (d.isCode && d.rw)

/-- A writable data segment (R98). -/
def Desc.writableData (d : Desc) : Bool := d.isData && d.rw

/-- The base address (R111). -/
def Desc.base (d : Desc) : BitVec 32 := d.hi.extractLsb' 24 8 ++ d.hi.extractLsb' 0 8 ++ d.lo.extractLsb' 16 16

/-- The byte limit: the 20-bit raw limit, or it shifted left 12 with FFFH when granular (R111). -/
def Desc.limit (d : Desc) : BitVec 32 :=
  if d.hi.getLsbD 23 then d.hi.extractLsb' 16 4 ++ d.lo.extractLsb' 0 16 ++ 0xFFF#12
  else 0#12 ++ d.hi.extractLsb' 16 4 ++ d.lo.extractLsb' 0 16

/-- The selector of a gate (R111). -/
def Desc.gateSel (d : Desc) : BitVec 16 := d.lo.extractLsb' 16 16

/-- An 80386-format gate or task state segment: bit 3 of a system type (R111). -/
def Desc.is386 (d : Desc) : Bool := d.hi.getLsbD 11

/-- The offset of a gate: 32 bits, or 16 for an 80286-format gate (R111). -/
def Desc.gateOffset (d : Desc) : BitVec 32 :=
  if d.is386 then d.hi.extractLsb' 16 16 ++ d.lo.extractLsb' 0 16 else (d.lo.extractLsb' 0 16).setWidth 32

/-- The operand size a gate's type fixes for the transfer (R234, R293). -/
def Desc.gateSize (d : Desc) : Size := sizeOf32 d.is386

/-- The parameter count of a call gate (R111). -/
def Desc.gateCount (d : Desc) : Nat := (d.hi.extractLsb' 0 5).toNat

/-- A system descriptor or gate of one of the given types (R111). -/
def Desc.isSys (d : Desc) (ts : List (BitVec 4)) : Bool := !d.isSeg && ts.contains d.typ

/-- The segment register that a selector and its descriptor make (R51). -/
def Desc.toSeg (d : Desc) (sel : BitVec 16) : SegReg :=
  { sel := sel, valid := true, base := d.base, limit := d.limit, code := d.isCode, rw := d.rw, ce := d.ce,
    dpl := d.dpl, present := d.present, db := d.hi.getLsbD 22 }

/-- A null selector: index and TI are 0 (R38). -/
def isNull (sel : BitVec 16) : Bool := sel &&& 0xFFFC == 0

/-- The TI bit: the selector names the LDT (R38). -/
def isLocal (sel : BitVec 16) : Bool := sel.getLsbD 2

/-- The selector with another RPL (R39). -/
def withRpl (sel : BitVec 16) (l : BitVec 2) : BitVec 16 := sel.extractLsb' 2 14 ++ l

/-- The base and limit of the table a selector indexes; nothing when LDTR is invalid (R100). -/
def State.tableFor (s : State) (sel : BitVec 16) : Option (BitVec 32 × Nat) :=
  if isLocal sel then
    if s.tables.ldtr.valid then some (s.tables.ldtr.base, s.tables.ldtr.limit.toNat) else none
  else some (s.tables.gdtr.base, s.tables.gdtr.limit.toNat)

/-- The linear address of a selector's descriptor, where it lies within its table's limits (R38, R100). -/
def State.descAddr (s : State) (sel : BitVec 16) : Option (BitVec 32) :=
  match s.tableFor sel with
  | none => none
  | some (base, limit) =>
    if (sel &&& 0xFFF8).toNat + 7 ≤ limit then some (base + (sel &&& 0xFFF8).setWidth 32) else none

/-- The eight bytes of a descriptor, read with supervisor rights (R100). -/
def State.descAt (s : State) (lin : BitVec 32) : Res Desc :=
  match s.linRead false .d32 lin with
  | .error e => .error e
  | .ok lo =>
    match s.linRead false .d32 (lin + 4) with
    | .error e => .error e
    | .ok hi => .ok { lo := lo, hi := hi }

/-- The descriptor of a selector, or nothing when it is not within its table's limits (R100). -/
def State.descOf? (s : State) (sel : BitVec 16) : Res (Option Desc) :=
  match s.descAddr sel with
  | none => .ok none
  | some lin =>
    match s.descAt lin with
    | .error e => .error e
    | .ok d => .ok (some d)

/-- "Selector index must be within its descriptor table limits else `e`", then the descriptor. -/
def State.descOf (s : State) (sel : BitVec 16) (e : Exc) : Res Desc :=
  match s.descOf? sel with
  | .error x => .error x
  | .ok none => raise e
  | .ok (some d) => .ok d

/-! ### Loading segment registers -/

/-- A segment register that holds a null selector: the descriptor valid bit is cleared (R97, R112). -/
def SegReg.null (sel : BitVec 16) : SegReg :=
  { sel := sel, valid := false, base := 0, limit := 0, code := false, rw := false, ce := false, dpl := 0,
    present := false, db := false }

/-- The checks of loading DS, ES, FS or GS in Protected Mode, and what it then holds (R97). -/
def State.checkData (s : State) (sel : BitVec 16) : Res SegReg :=
  if isNull sel then .ok (SegReg.null sel)
  else do
    let d ← s.descOf sel (excGP (selCode sel))
    need d.readable (excGP (selCode sel))
    need (d.conforming || (decide (rpl sel ≤ d.dpl) && decide (s.cpl ≤ d.dpl))) (excGP (selCode sel))
    need d.present (excNP (selCode sel))
    pure (d.toSeg sel)

/-- The checks of loading SS in Protected Mode, and what it then holds (R98). -/
def State.checkStack (s : State) (sel : BitVec 16) : Res SegReg := do
  need (!isNull sel) (excGP 0)
  let d ← s.descOf sel (excGP (selCode sel))
  need (rpl sel == s.cpl) (excGP (selCode sel))
  need d.writableData (excGP (selCode sel))
  need (d.dpl == s.cpl) (excGP (selCode sel))
  need d.present (excSS (selCode sel))
  pure (d.toSeg sel)

/-- What a segment register other than CS holds after a selector is loaded, or the exception of the load (R97 to
R99). -/
def State.checkSeg (s : State) (r : SReg) (sel : BitVec 16) : Res SegReg :=
  if s.protectedMode then (if r == .ss then s.checkStack sel else s.checkData sel)
  else .ok (SegReg.real sel)

/-- Loads a segment register other than CS (R97 to R99). -/
def State.loadSeg (s : State) (r : SReg) (sel : BitVec 16) : Res State :=
  match s.checkSeg r sel with
  | .error e => .error e
  | .ok g => .ok (s.setSeg r g)

end Sys2Proof.Machine
end

