-- ==== Sys2Proof/Machine/Ops.lean ====
section
/-! DEFINITION. Machine/Ops.lean: the stack, taking an exception, returning from one, and how a meaning is run. -/

namespace Sys2Proof.Machine

/-- What exec answers. -/
abbrev Out := Host.Outcome State Fault Refusal

/-! ### The stack (R5, R6, R109) -/

/-- The offset of the item that a push of `n` bytes writes. -/
def State.pushOffset (s : State) (n : Nat) : BitVec 32 :=
  truncSize s.stackSize (s.eReg s.stackSize .esp - BitVec.ofNat 32 n)

/-- Push (R5): the store passes its checks before the stack pointer moves. -/
def State.push (s : State) (size : Size) (v : BitVec 32) : Res State :=
  match s.memWrite .ss size.width (s.pushOffset size.bytes) (v.setWidth _) with
  | .error e => .error e
  | .ok t => .ok (t.setEReg s.stackSize .esp (s.pushOffset size.bytes))

/-- Outside Protected Mode the `k`-th item pushed would straddle the top of the 64K stack (R393, D18). -/
def State.pushWraps (s : State) (size : Size) (k : Nat) : Bool :=
  !s.protectedMode && decide (2 ^ 16 < (s.pushOffset (k * size.bytes)).toNat + size.bytes)

/-- The checks of the `k`-th item pushed, before any is: a straddling item shuts the machine down (R393, D18), one
outside the stack segment is the exception of R94. -/
def State.pushCheck (s : State) (size : Size) (k : Nat) : Res Unit :=
  if s.pushWraps size k then .error .shutdown
  else need (s.accessOk .ss (s.pushOffset (k * size.bytes)) size.bytes true) (s.accessExc .ss)

/-- The whole limit check of `k` items, in the order they are pushed (R471). -/
def State.pushChecks (s : State) (size : Size) : Nat → Res Unit
  | 0 => .ok ()
  | k + 1 =>
    match s.pushChecks size k with
    | .error e => .error e
    | .ok _ => s.pushCheck size (k + 1)

/-- Push where a lack of stack space shuts a real-mode or V86-mode machine down (R393, D18). -/
def State.pushOrShutdown (s : State) (size : Size) (v : BitVec 32) : Res State :=
  match s.pushCheck size 1 with
  | .error e => .error e
  | .ok _ => s.push size v

/-- The item `k` bytes above the top of the stack. -/
def State.stackItem (s : State) (size : Size) (k : Nat) : Res (BitVec 32) :=
  match s.memRead .ss size.width (addOffset s.stackSize (s.eReg s.stackSize .esp) (BitVec.ofNat 32 k)) with
  | .error e => .error e
  | .ok v => .ok (v.setWidth 32)

/-- The stack pointer moved up by `k` bytes (SP or ESP by StackAddrSize). -/
def State.dropStack (s : State) (k : BitVec 32) : State :=
  s.setEReg s.stackSize .esp (s.eReg s.stackSize .esp + k)

/-- Pop (R6). -/
def State.pop (s : State) (size : Size) : Res (BitVec 32 × State) :=
  match s.stackItem size 0 with
  | .error e => .error e
  | .ok v => .ok (v, s.dropStack (BitVec.ofNat 32 size.bytes))

/-- A selector, or another word, as a stack item: a doubleword item's upper half is a free value (D14). -/
def State.padWord (s : State) (size : Size) (sel : BitVec 16) : BitVec 32 × State :=
  match size with
  | .s16 => (sel.setWidth 32, s)
  | .s32 => ((s.draw.1).extractLsb' 16 16 ++ sel, s.draw.2)

/-- Pushes a selector, padded as `padWord` says. -/
def State.pushWord (s : State) (size : Size) (sel : BitVec 16) : Res State :=
  (s.padWord size sel).2.push size (s.padWord size sel).1

/-- Pushes doublewords in order, each at the operand size. -/
def State.pushList (s : State) (size : Size) : List (BitVec 32) → Res State
  | [] => .ok s
  | v :: t =>
    match s.push size v with
    | .error e => .error e
    | .ok u => u.pushList size t

/-- `n` bytes below an offset lie within the limits of a stack segment. -/
def SegReg.stackRoom (g : SegReg) (sp : BitVec 32) (n : Nat) : Bool :=
  g.valid && g.inLimit (truncSize (sizeOf32 g.db) (sp - BitVec.ofNat 32 n)).toNat n

/-- `n` bytes from the top of the stack lie within its limits. -/
def State.stackHas (s : State) (n : Nat) : Bool :=
  s.accessOk .ss (s.eReg s.stackSize .esp) n false

/-! ### Transfers -/

/-- A taken control transfer within CS: it empties the prefetch queue (R107, R502). -/
def State.jumpTo (s : State) (eip : BitVec 32) : State :=
  { s with eip := eip, seq := { s.seq with stale := [], peSwitch := false } }

/-- A taken control transfer to a new CS. -/
def State.jumpFar (s : State) (cs : SegReg) (eip : BitVec 32) : State := (s.setSeg .cs cs).jumpTo eip

/-- The offset lies within the limit of a code segment (R32). -/
def SegReg.ipOk (cs : SegReg) (eip : BitVec 32) : Bool := decide (eip ≤ cs.limit)

/-! ### The task state segment (R110) -/

/-- A value at an offset of the current task state segment; beyond its limit #TS with the selector of TR (R110). -/
def State.tssRead (s : State) (w : Width) (off : Nat) (ext : BitVec 16) : Res (BitVec w.bits) :=
  if s.tables.tr.valid && decide (off + w.bytes ≤ s.tables.tr.limit.toNat + 1) then
    s.linRead false w (s.tables.tr.base + BitVec.ofNat 32 off)
  else raise (excTS (selCode s.tables.tr.sel ||| ext))

/-- The SS and eSP that the current task state segment holds for a privilege level (R110). -/
def State.tssStack (s : State) (level : BitVec 2) (ext : BitVec 16) : Res (BitVec 16 × BitVec 32) :=
  if s.tables.tr.is386 then do
    let sp ← s.tssRead .d32 (4 + 8 * level.toNat) ext
    let ss ← s.tssRead .w16 (8 + 8 * level.toNat) ext
    pure (ss, sp)
  else do
    let sp ← s.tssRead .w16 (2 + 4 * level.toNat) ext
    let ss ← s.tssRead .w16 (4 + 4 * level.toNat) ext
    pure (ss, sp.setWidth 32)

/-- The checks of the stack segment of an inner privilege level (R234, R294), and what SS then holds. `nullExc` is the
exception of a null selector, which the two rules give differently. -/
def State.checkNewStack (s : State) (sel : BitVec 16) (level : BitVec 2) (nullExc : Exc) (ext : BitVec 16) :
    Res SegReg := do
  need (!isNull sel) nullExc
  let d ← s.descOf sel (excTS (selCode sel ||| ext))
  need (rpl sel == level) (excTS (selCode sel ||| ext))
  need (d.dpl == level) (excTS (selCode sel ||| ext))
  need d.writableData (excTS (selCode sel ||| ext))
  need d.present (excSS (selCode sel ||| ext))
  pure (d.toSeg sel)

/-- SS and eSP replaced: SP or ESP by the new segment's B bit (R3). DEDUCED (log 26) and, for the upper half of ESP that a
16-bit image leaves, DESIGN CHOICE (log 58, unsafe): it becomes that of the value given. -/
def State.loadStack (s : State) (ss : SegReg) (sp : BitVec 32) : State :=
  (s.setSeg .ss ss).setEReg (sizeOf32 ss.db) .esp sp

/-- The checks of the task state segment a task gate names (R235, R297, R317): `e` builds the exception of a failed
check, `busy` says which of the two states it must be in. -/
def State.checkTss (s : State) (sel : BitVec 16) (e : BitVec 16 → Exc) (types : List (BitVec 4)) : Res Unit := do
  need (!isLocal sel) (e (selCode sel))
  let d ← s.descOf sel (e (selCode sel))
  need (d.isSys types) (e (selCode sel))
  need d.present (excNP (selCode sel))

/-! ### Taking an exception or interrupt (R291 to R297, R462) -/

/-- An event to deliver: its vector, its error code, whether it is external (EXT, R461), whether it is a software
interrupt (INT n, INT 3, INTO), and whether it is an exception (for R472). -/
structure Event where
  vec : BitVec 8
  code : Option (BitVec 16)
  ext : Bool
  software : Bool
  exception : Bool
deriving DecidableEq, Repr

/-- The EXT bit of an error code (R461). -/
def Event.extBit (e : Event) : BitVec 16 := if e.ext then 1 else 0

/-- The number of stack items an error code takes. -/
def Event.codeItems (e : Event) : Nat := if e.code.isSome then 1 else 0

/-- Pushes the error code, if any; the upper half of a doubleword is a free value (R294, D14). -/
def State.pushCode (s : State) (size : Size) (e : Event) : Res State :=
  match e.code with
  | none => .ok s
  | some c => s.pushWord size c

/-- The flags a handler starts with: TF and NT cleared, and IF by an interrupt gate (R294, R296). -/
def Flags.enter (f : Flags) (interruptGate : Bool) : Flags :=
  { f with tf := false, nt := false, intf := f.intf && !interruptGate }

/-- The gate is an interrupt gate: types 7 and F (R111, R292). -/
def Desc.isInterruptGate (d : Desc) : Bool := d.typ == 7 || d.typ == 15

/-- Interrupt entry in Real Address Mode (R291). -/
def State.enterReal (s : State) (e : Event) : Res State := do
  s.pushChecks .s16 3
  let a ← s.push .s16 s.flags.image
  let b ← a.push .s16 (s.segs.cs.sel.setWidth 32)
  let c ← b.push .s16 s.eip
  need (decide (e.vec.toNat * 4 + 3 ≤ s.tables.idtr.limit.toNat)) (excGP 0)
  let ip ← c.linRead false .w16 (s.tables.idtr.base + e.vec.setWidth 32 * 4)
  let cs ← c.linRead false .w16 (s.tables.idtr.base + e.vec.setWidth 32 * 4 + 2)
  pure ({ c with flags := { s.flags with intf := false, tf := false } }.jumpFar (SegReg.real cs) (ip.setWidth 32))

/-- Interrupt to inner privilege (R294): `g` is the gate, `cs` the new CS with its privilege level as RPL. DESIGN CHOICE
(log 54, unsafe): with paging on, the pushes on the new stack are translated at the new level. -/
def State.enterInner (s : State) (e : Event) (g : Desc) (cs : SegReg) : Res State := do
  let (ssSel, sp) ← s.tssStack cs.dpl e.extBit
  let ss ← s.checkNewStack ssSel cs.dpl (excGP e.extBit) e.extBit
  need (ss.stackRoom sp (g.gateSize.bytes * (5 + e.codeItems))) (excSS 0)
  need (cs.ipOk g.gateOffset) (excGP 0)
  let a := (s.setSeg .cs cs).loadStack ss sp
  let b ← a.pushWord g.gateSize s.segs.ss.sel
  let c ← b.push g.gateSize s.gpr.esp
  let d ← c.push g.gateSize s.flags.image
  let f ← d.pushWord g.gateSize s.segs.cs.sel
  let h ← f.push g.gateSize s.eip
  let i ← h.pushCode g.gateSize e
  pure ({ i with flags := s.flags.enter g.isInterruptGate }.jumpTo g.gateOffset)

/-- Interrupt to the same privilege level (R296). -/
def State.enterSame (s : State) (e : Event) (g : Desc) (cs : SegReg) : Res State := do
  need (s.segs.ss.stackRoom (s.eReg s.stackSize .esp) (g.gateSize.bytes * (3 + e.codeItems))) (excSS 0)
  need (cs.ipOk g.gateOffset) (excGP 0)
  let a ← s.push g.gateSize s.flags.image
  let b ← a.pushWord g.gateSize s.segs.cs.sel
  let c ← b.push g.gateSize s.eip
  let d ← c.pushCode g.gateSize e
  pure ({ d with flags := s.flags.enter g.isInterruptGate }.jumpFar cs g.gateOffset)

/-- Interrupt from V86 mode to level 0 (R295). A 16-bit gate or an 80286 task state segment is not described. -/
def State.enterFromV86 (s : State) (e : Event) (g : Desc) (cs : SegReg) : Res State :=
  if !g.is386 || !s.tables.tr.is386 then .error (.refuse .gate16FromV86)
  else do
    let (ssSel, sp) ← s.tssStack 0 e.extBit
    let ss ← s.checkNewStack ssSel 0 (excGP e.extBit) e.extBit
    need (ss.stackRoom sp (4 * (9 + e.codeItems))) (excSS 0)
    need (cs.ipOk g.gateOffset) (excGP 0)
    let a := (({ s with flags := { s.flags.enter g.isInterruptGate with vm := false } }.setSeg .cs cs).setSeg .ss
      ss).setReg .d32 .esp sp
    let b ← a.pushWord .s32 s.segs.gs.sel
    let c ← b.pushWord .s32 s.segs.fs.sel
    let d ← c.pushWord .s32 s.segs.ds.sel
    let f ← d.pushWord .s32 s.segs.es.sel
    let h ← f.pushWord .s32 s.segs.ss.sel
    let i ← h.push .s32 s.gpr.esp
    let j ← i.push .s32 s.flags.image
    let k ← j.pushWord .s32 s.segs.cs.sel
    let l ← k.push .s32 s.eip
    let m ← l.pushCode .s32 e
    pure (({ m with segs := { m.segs with gs := SegReg.null 0, fs := SegReg.null 0, ds := SegReg.null 0,
                                          es := SegReg.null 0 } }).jumpTo g.gateOffset)

/-- A trap or interrupt gate: the checks of the target code segment and the dispatch (R293). -/
def State.enterGate (s : State) (e : Event) (g : Desc) : Res State := do
  let sel := g.gateSel
  need (!isNull sel) (excGP e.extBit)
  let d ← s.descOf sel (excGP (selCode sel ||| e.extBit))
  need d.isCode (excGP (selCode sel ||| e.extBit))
  need d.present (excNP (selCode sel ||| e.extBit))
  if !d.ce && decide (d.dpl < s.cpl) then
    if s.v86Mode then do
      need (d.dpl == 0) (excGP (selCode sel ||| e.extBit))
      s.enterFromV86 e g (d.toSeg (withRpl sel 0))
    else s.enterInner e g (d.toSeg (withRpl sel d.dpl))
  else do
    need (d.ce || d.dpl == s.cpl) (excGP (selCode sel ||| e.extBit))
    need (!s.v86Mode) (excGP (selCode sel ||| e.extBit))
    s.enterSame e g (d.toSeg (withRpl sel s.cpl))

/-- The error code of a failed IDT lookup: vector * 8 + 2 + EXT (R461). -/
def Event.idtCode (e : Event) : BitVec 16 := e.vec.setWidth 16 * 8 + 2 + e.extBit

/-- Interrupt entry with PE = 1 (R292, R297). The task switch of a task gate is refused (D8). -/
def State.enterProtected (s : State) (e : Event) : Res State := do
  need (decide (e.vec.toNat * 8 + 7 ≤ s.tables.idtr.limit.toNat)) (excGP e.idtCode)
  let g ← s.descAt (s.tables.idtr.base + e.vec.setWidth 32 * 8)
  need (g.isSys [5, 6, 7, 14, 15]) (excGP e.idtCode)
  need (!e.software || decide (s.cpl ≤ g.dpl)) (excGP e.idtCode)
  need g.present (excNP e.idtCode)
  if g.typ == 5 then do
    s.checkTss g.gateSel excTS [1, 9]
    .error (.refuse .taskSwitch)
  else s.enterGate e g

/-- Taking an exception or interrupt (R462): the return address is CS:EIP of the state. -/
def State.enter (s : State) (e : Event) : Res State :=
  if s.realMode then s.enterReal e else s.enterProtected e

/-- The contributory class of exceptions (R472). -/
def isContributory (v : BitVec 8) : Bool := [0, 10, 11, 12, 13].contains v

/-- The event that an exception raised while delivering `e` becomes (R472): a double fault, the exception itself, or
shutdown after a double fault (none). EXT is inherited (R462). -/
def Event.escalate (e : Event) (x : Exc) : Option Event :=
  if e.exception && e.vec == 8 then none
  else if e.exception &&
      ((isContributory e.vec && isContributory x.vec) ||
        (e.vec == 14 && (isContributory x.vec || x.vec == 14))) then
    some { vec := 8, code := some 0, ext := e.ext, software := false, exception := true }
  else some { vec := x.vec, code := x.code, ext := e.ext, software := false, exception := true }

/-- CR2 of a page fault (R101). -/
def State.loadCr2 (s : State) (x : Exc) : State :=
  match x.cr2 with
  | none => s
  | some a => { s with ctrl := { s.ctrl with cr2 := a } }

/-- The shutdown state, left only by RESET (R52). -/
def State.shutDown (s : State) : State := { s with seq := { s.seq with shutdown := true } }

/-- Delivers an event, with the double fault and shutdown of R472. The number bounds the
chain of events; `deliverFuel` is longer than any chain. -/
def State.deliver : Nat → State → Event → Out
  | 0, s, _ => .next s.shutDown
  | n + 1, s, e =>
    match s.enter e with
    | .ok t => .next t
    | .error .shutdown => .next s.shutDown
    | .error (.refuse r) => .refused r
    | .error (.fault f) => .fault f
    | .error (.exc x) =>
      match e.escalate x with
      | none => .next s.shutDown
      | some e' => deliver n (s.loadCr2 x) e'

/-- One more than the longest chain of events: an interrupt, a contributory fault, a page fault, a double fault. -/
def deliverFuel : Nat := 5

/-- An exception of an instruction as an event: a fault of the program itself, EXT = 0 (R462). -/
def Exc.event (x : Exc) : Event :=
  { vec := x.vec, code := x.code, ext := false, software := false, exception := true }

/-- The state a faulting instruction restarts from: EIP addresses its first byte, first prefix included (R471). -/
def State.restart (s : State) : State :=
  { s with eip := s.seq.startEip, seq := { s.seq with stepTrap := false, pfx := Prefixes.empty } }

/-- The outcome of a meaning: its next state, or from the state before the instruction the exception it raised. -/
def State.settle (s : State) (r : Res State) : Out :=
  match r with
  | .ok t => .next t
  | .error .shutdown => .next s.restart.shutDown
  | .error (.refuse r) => .refused r
  | .error (.fault f) => .fault f
  | .error (.exc x) => (s.restart.loadCr2 x).deliver deliverFuel x.event

/-! ### Returning from an exception or interrupt (R298 to R302) -/

/-- The checks of a return CS selector and its descriptor, and what CS then holds (R301, R302, R412, R413): its DPL must
equal the selector's RPL, or be at most it for a conforming segment. -/
def State.checkReturnCs (s : State) (sel : BitVec 16) : Res SegReg := do
  need (!isNull sel) (excGP 0)
  let d ← s.descOf sel (excGP (selCode sel))
  need d.isCode (excGP (selCode sel))
  need (d.ce || d.dpl == rpl sel) (excGP (selCode sel))
  need (!d.ce || decide (d.dpl ≤ rpl sel)) (excGP (selCode sel))
  need d.present (excNP (selCode sel))
  pure (d.toSeg sel)

/-- The checks of a return SS selector for privilege level `level`, and what SS then holds (R302, R413). -/
def State.checkReturnSs (s : State) (sel : BitVec 16) (level : BitVec 2) : Res SegReg := do
  need (!isNull sel) (excGP 0)
  let d ← s.descOf sel (excGP (selCode sel))
  need (rpl sel == level) (excGP (selCode sel))
  need d.writableData (excGP (selCode sel))
  need (d.dpl == level) (excGP (selCode sel))
  need d.present (excNP (selCode sel))
  pure (d.toSeg sel)

/-- A data segment register stays valid at the outer level of the state (R302, R413). -/
def State.validOuter (s : State) (g : SegReg) : Bool :=
  g.valid && (s.descAddr g.sel).isSome && (!g.code || g.rw) &&
    ((g.code && g.ce) || (decide (s.cpl ≤ g.dpl) && decide (rpl g.sel ≤ g.dpl)))

/-- ES, FS, GS and DS set to null where they are not valid for the outer level (R302, R413). -/
def State.dropInvalid (s : State) : State :=
  let keep (g : SegReg) : SegReg := if s.validOuter g then g else SegReg.null 0
  { s with segs := { s.segs with es := keep s.segs.es, fs := keep s.segs.fs, gs := keep s.segs.gs,
                                 ds := keep s.segs.ds } }

/-- The end of NMI handling (R469). -/
def State.unblockNmi (s : State) : State := { s with seq := { s.seq with nmiBlocked := false } }

/-- IRET in Real Address Mode, and in V86 mode with IOPL 3 (R298). -/
def State.iretReal (s : State) : Res State := do
  let ip ← s.stackItem s.opSize 0
  let cs ← s.stackItem s.opSize s.opSize.bytes
  let fl ← s.stackItem s.opSize (2 * s.opSize.bytes)
  let t := { s.dropStack (BitVec.ofNat 32 (3 * s.opSize.bytes)) with flags := s.flags.loadIret s.cpl s.opSize fl }
  pure ((t.jumpFar (SegReg.real (cs.setWidth 16)) ip).unblockNmi)

/-- IRET with NT = 1: the checks of the task to return to, whose task switch is refused (R299, D8). -/
def State.iretTask (s : State) : Res State := do
  let sel ← s.tssRead .w16 0 0
  s.checkTss sel excTS [3, 11]
  .error (.refuse .taskSwitch)

/-- IRETD to V86 mode (R300). The items are popped in the order the rule prints, ESP and SS last (log 50). -/
def State.iretToV86 (s : State) : Res State := do
  need (s.stackHas 36) (excSS 0)
  let ip ← s.stackItem .s32 0
  need (decide (ip ≤ 0xFFFF)) (excGP 0)
  let cs ← s.stackItem .s32 4
  let fl ← s.stackItem .s32 8
  let es ← s.stackItem .s32 12
  let ds ← s.stackItem .s32 16
  let fs ← s.stackItem .s32 20
  let gs ← s.stackItem .s32 24
  let sp ← s.stackItem .s32 28
  let ss ← s.stackItem .s32 32
  let real (v : BitVec 32) : SegReg := SegReg.real (v.setWidth 16)
  let t := { s with
    flags := { s.flags.loadIret 0 .s32 fl with vm := true }
    segs := { es := real es, cs := real cs, ss := real ss, ds := real ds, fs := real fs, gs := real gs }
    gpr := { s.gpr with esp := sp } }
  pure ((t.jumpTo ip).unblockNmi)

/-- IRET to the same privilege level (R301). -/
def State.iretSame (s : State) (sel : BitVec 16) : Res State := do
  need (s.stackHas (3 * s.opSize.bytes)) (excSS 0)
  let cs ← s.checkReturnCs sel
  let ip ← s.stackItem s.opSize 0
  need (cs.ipOk ip) (excGP 0)
  let fl ← s.stackItem s.opSize (2 * s.opSize.bytes)
  let t := { s.dropStack (BitVec.ofNat 32 (3 * s.opSize.bytes)) with flags := s.flags.loadIret s.cpl s.opSize fl }
  pure ((t.jumpFar cs ip).unblockNmi)

/-- IRET to an outer privilege level (R302). -/
def State.iretOuter (s : State) (sel : BitVec 16) : Res State := do
  need (s.stackHas (5 * s.opSize.bytes)) (excSS 0)
  let cs ← s.checkReturnCs sel
  let ssImg ← s.stackItem s.opSize (4 * s.opSize.bytes)
  let ss ← s.checkReturnSs (ssImg.setWidth 16) (rpl sel)
  let ip ← s.stackItem s.opSize 0
  need (cs.ipOk ip) (excGP 0)
  let fl ← s.stackItem s.opSize (2 * s.opSize.bytes)
  let sp ← s.stackItem s.opSize (3 * s.opSize.bytes)
  let t := { s with flags := s.flags.loadIret s.cpl s.opSize fl }
  pure (((t.jumpFar cs ip).loadStack ss sp).dropInvalid.unblockNmi)

/-- The image at SS:[eSP+8] has VM set, and IRETD at level 0 reads it (R298). -/
def State.iretSeesVm (s : State) : Res Bool :=
  if s.opSize == .s32 && s.cpl == 0 && s.stackHas 12 then
    match s.stackItem .s32 8 with
    | .error e => .error e
    | .ok fl => .ok (Flags.ofImage fl).vm
  else .ok false

/-- IRET's stack return: to the same or an outer privilege level (R301). -/
def State.iretStack (s : State) : Res State := do
  let sel ← s.memRead .ss .w16
    (addOffset s.stackSize (s.eReg s.stackSize .esp) (BitVec.ofNat 32 s.opSize.bytes))
  need (decide (s.cpl ≤ rpl sel)) (excGP (selCode sel))
  if rpl sel == s.cpl then s.iretSame sel else s.iretOuter sel

/-- Returning from an exception or interrupt: IRET and IRETD (R298). -/
def State.iret (s : State) : Res State :=
  if s.realMode || (s.flags.vm && s.flags.iopl == 3) then s.iretReal
  else if s.flags.vm then raise (excGP 0)
  else if s.flags.nt then s.iretTask
  else do
    let v ← s.iretSeesVm
    if v then s.iretToV86 else s.iretStack

/-! ### Running a meaning -/

/-- Which prefixes of the LOCK and repeat group an instruction takes (R343, R408). -/
inductive GroupRule where
  /-- None of them. -/
  | none
  /-- LOCK, when the destination is memory. -/
  | lockMem (dest : RM)
  /-- REP (F3) only. -/
  | repOnly
  /-- REPE (F3) and REPNE (F2). -/
  | repBoth
deriving DecidableEq, Repr

/-- The prefix is one the instruction takes; another raises #UD (R343, R408). -/
def GroupRule.allows : GroupRule → Option GroupPrefix → Bool
  | _, .none => true
  | .lockMem (.mem _), some .lock => true
  | .repOnly, some .rep => true
  | .repBoth, some .rep => true
  | .repBoth, some .repne => true
  | _, _ => false

/-- Runs a meaning: #UD for a LOCK or repeat prefix the instruction does not take, then its body. -/
def perform (rule : GroupRule) (s : State) (body : State → Res State) : Out :=
  s.settle (if rule.allows s.seq.pfx.group then body s else raise excUD)

/-- #UD where an encoding or a mode does not have the instruction. -/
def needUD (c : Bool) : Res Unit := need c excUD

/-- #GP(0) unless CPL is 0 (R475). -/
def State.needCpl0 (s : State) : Res Unit := need (s.cpl == 0) (excGP 0)

end Sys2Proof.Machine
end

