-- ==== Sys2Proof/Machine/Access.lean ====
section
/-! DEFINITION. Machine/Access.lean: reading and writing the operand that mod and r/m select. -/

namespace Sys2Proof.Machine

/-- The segment register of a memory operand (R96). -/
def State.eaSeg (s : State) (ea : EA) : SReg := s.dataSeg ea.defaultSeg

/-- The offset of a memory operand (R93). -/
def State.eaOff (s : State) (ea : EA) : BitVec 32 := ea.offset s.gpr

/-- ReadRM(w) of R2. -/
def State.readRM (s : State) (w : Width) : RM → Res (BitVec w.bits)
  | .reg r => .ok (s.reg w r)
  | .mem ea => s.memRead (s.eaSeg ea) w (s.eaOff ea)

/-- WriteRM(w, v) of R2. -/
def State.writeRM (s : State) (w : Width) : RM → BitVec w.bits → Res State
  | .reg r, v => .ok (s.setReg w r v)
  | .mem ea, v => s.memWrite (s.eaSeg ea) w (s.eaOff ea) v

/-- The write check of a destination that is read first (R95). A register always passes. -/
def State.checkRM (s : State) (w : Width) : RM → Res Unit
  | .reg _ => .ok ()
  | .mem ea => s.writeCheck (s.eaSeg ea) (s.eaOff ea) w.bytes

/-- Reads a destination that is written later: the write check, paging included (log 59), precedes the read (R95). -/
def State.readDest (s : State) (w : Width) (rm : RM) : Res (BitVec w.bits) :=
  match s.checkRM w rm with
  | .error e => .error e
  | .ok _ => s.readRM w rm

/-- A read-modify-write of an operand: `f` gives the new value and the state that writes it. -/
def State.updateRM (s : State) (w : Width) (rm : RM) (f : BitVec w.bits → BitVec w.bits × State) : Res State :=
  match s.readDest w rm with
  | .error e => .error e
  | .ok a => (f a).2.writeRM w rm (f a).1

/-- The operand is a register: #UD where only memory is allowed (R155). -/
def needMem : RM → Res EA
  | .reg _ => raise excUD
  | .mem ea => .ok ea

/-- A far pointer in memory: the offset, then the selector above it (R91, R340). -/
def State.farPtr (s : State) (ea : EA) : Res (BitVec 32 × BitVec 16) :=
  match s.memBytesAt (s.eaSeg ea) (s.eaOff ea) (s.opSize.bytes + 2) with
  | .error e => .error e
  | .ok bs => .ok (BitVec.ofNat 32 (leNat (bs.take s.opSize.bytes)), BitVec.ofNat 16 (leNat (bs.drop s.opSize.bytes)))

end Sys2Proof.Machine
end

