-- ==== Sys2Proof/Machine/Alu.lean ====
section
/-! DEFINITION. Machine/Alu.lean: ADD, OR, ADC, SBB, AND, SUB, XOR, CMP, TEST, INC, DEC, NEG, NOT. -/

namespace Sys2Proof.Machine

/-- The eight two-operand arithmetic and logic operations (R216). -/
inductive AluOp where
  | add | or | adc | sbb | and | sub | xor | cmp
deriving DecidableEq, Repr

/-- The result of an operation on the destination `a`, the source `b` and the carry flag. -/
def AluOp.result {n : Nat} (op : AluOp) (a b : BitVec n) (cf : Bool) : BitVec n :=
  match op with
  | .add => a + b
  | .or => a ||| b
  | .adc => a + b + BitVec.ofNat n cf.toNat
  | .sbb => a - b - BitVec.ofNat n cf.toNat
  | .and => a &&& b
  | .sub => a - b
  | .xor => a ^^^ b
  | .cmp => a - b

/-- The state with the flags of a logic result: FlagsLogic, with AF undefined (R34). -/
def State.logicFlags {n : Nat} (s : State) (r : BitVec n) : State :=
  { s with flags := s.flags.logic r }.undefineFlags [.af]

/-- The state with the flags of an operation (R34). -/
def State.aluFlags {n : Nat} (s : State) (op : AluOp) (a b : BitVec n) : State :=
  match op with
  | .add => { s with flags := s.flags.add a b false }
  | .adc => { s with flags := s.flags.add a b s.flags.cf }
  | .sub => { s with flags := s.flags.sub a b false }
  | .cmp => { s with flags := s.flags.sub a b false }
  | .sbb => { s with flags := s.flags.sub a b s.flags.cf }
  | .or => s.logicFlags (a ||| b)
  | .and => s.logicFlags (a &&& b)
  | .xor => s.logicFlags (a ^^^ b)

/-- An operation on an r/m destination. -/
def State.aluRM (s : State) (op : AluOp) (w : Width) (rm : RM) (b : BitVec w.bits) : Res State :=
  s.updateRM w rm fun a => (op.result a b s.flags.cf, s.aluFlags op a b)

/-- An operation on a register destination. -/
def State.aluReg (s : State) (op : AluOp) (w : Width) (r : Reg) (b : BitVec w.bits) : State :=
  (s.aluFlags op (s.reg w r) b).setReg w r (op.result (s.reg w r) b s.flags.cf)

/-- An operation on a register destination with an r/m source. -/
def State.aluRegRM (s : State) (op : AluOp) (w : Width) (r : Reg) (rm : RM) : Res State :=
  match s.readRM w rm with
  | .error e => .error e
  | .ok b => .ok (s.aluReg op w r b)

/-- CMP with an r/m left operand: only the flags change, and memory is only read (R246). -/
def State.cmpRM (s : State) (w : Width) (rm : RM) (b : BitVec w.bits) : Res State :=
  match s.readRM w rm with
  | .error e => .error e
  | .ok a => .ok (s.aluFlags .cmp a b)

/-- CMP with a register left operand. -/
def State.cmpReg (s : State) (w : Width) (r : Reg) (b : BitVec w.bits) : State := s.aluFlags .cmp (s.reg w r) b

/-- CMP of a register with an r/m right operand. -/
def State.cmpRegRM (s : State) (w : Width) (r : Reg) (rm : RM) : Res State :=
  match s.readRM w rm with
  | .error e => .error e
  | .ok b => .ok (s.cmpReg w r b)

/-- TEST: the flags of the AND; nothing is written (R439). -/
def State.testRM (s : State) (w : Width) (rm : RM) (b : BitVec w.bits) : Res State :=
  match s.readRM w rm with
  | .error e => .error e
  | .ok a => .ok (s.logicFlags (a &&& b))

/-- The flags of INC: as ADD of 1, with CF unchanged (R275). -/
def Flags.inc {n : Nat} (f : Flags) (a : BitVec n) : Flags := { f.add a 1 false with cf := f.cf }

/-- The flags of DEC: as SUB of 1, with CF unchanged (R251). -/
def Flags.dec {n : Nat} (f : Flags) (a : BitVec n) : Flags := { f.sub a 1 false with cf := f.cf }

/-- INC of an r/m operand (R275). -/
def State.incRM (s : State) (w : Width) (rm : RM) : Res State :=
  s.updateRM w rm fun a => (a + 1, { s with flags := s.flags.inc a })

/-- DEC of an r/m operand (R251). -/
def State.decRM (s : State) (w : Width) (rm : RM) : Res State :=
  s.updateRM w rm fun a => (a - 1, { s with flags := s.flags.dec a })

/-- NEG: the operand subtracted from zero (R366). -/
def State.negRM (s : State) (w : Width) (rm : RM) : Res State :=
  s.updateRM w rm fun a => (0 - a, { s with flags := s.flags.sub 0 a false })

/-- NOT: no flag changes (R370). -/
def State.notRM (s : State) (w : Width) (rm : RM) : Res State := s.updateRM w rm fun a => (~~~a, s)

/-- ADD r/m8,r8 (R205). -/
def execAddRm8R8 (rm : RM) (r : Reg) (s : State) : Out :=
  perform (.lockMem rm) s fun s => s.aluRM .add .b8 rm (s.reg .b8 r)

/-- ADD r/m16,r16 and r/m32,r32 (R205). -/
def execAddRmvRv (rm : RM) (r : Reg) (s : State) : Out :=
  perform (.lockMem rm) s fun s => s.aluRM .add s.opSize.width rm (s.reg s.opSize.width r)

/-- ADD r8,r/m8 (R205). -/
def execAddR8Rm8 (r : Reg) (rm : RM) (s : State) : Out :=
  perform (.none) s fun s => s.aluRegRM .add .b8 r rm

/-- ADD r16,r/m16 and r32,r/m32 (R205). -/
def execAddRvRmv (r : Reg) (rm : RM) (s : State) : Out :=
  perform (.none) s fun s => s.aluRegRM .add s.opSize.width r rm

/-- ADD AL,imm8 (R205). -/
def execAddAlImm8 (imm : BitVec 8) (s : State) : Out :=
  perform (.none) s fun s => .ok (s.aluReg .add .b8 .eax imm)

/-- ADD AX,imm16 and EAX,imm32 (R205). -/
def execAddEaxImmv (imm : VImm) (s : State) : Out :=
  perform (.none) s fun s => .ok (s.aluReg .add s.opSize.width .eax (imm.at s.opSize.width))

/-- ADD r/m8,imm8 (R205). -/
def execAddRm8Imm8 (rm : RM) (imm : BitVec 8) (s : State) : Out :=
  perform (.lockMem rm) s fun s => s.aluRM .add .b8 rm imm

/-- ADD r/m16,imm16 and r/m32,imm32 (R205). -/
def execAddRmvImmv (rm : RM) (imm : VImm) (s : State) : Out :=
  perform (.lockMem rm) s fun s => s.aluRM .add s.opSize.width rm (imm.at s.opSize.width)

/-- ADD r/m16,imm8 and r/m32,imm8, the immediate sign-extended (R205). -/
def execAddRmvImm8 (rm : RM) (imm : BitVec 8) (s : State) : Out :=
  perform (.lockMem rm) s fun s => s.aluRM .add s.opSize.width rm (immSext s.opSize.width imm)

/-- OR r/m8,r8 (R371). -/
def execOrRm8R8 (rm : RM) (r : Reg) (s : State) : Out :=
  perform (.lockMem rm) s fun s => s.aluRM .or .b8 rm (s.reg .b8 r)

/-- OR r/m16,r16 and r/m32,r32 (R371). -/
def execOrRmvRv (rm : RM) (r : Reg) (s : State) : Out :=
  perform (.lockMem rm) s fun s => s.aluRM .or s.opSize.width rm (s.reg s.opSize.width r)

/-- OR r8,r/m8 (R371). -/
def execOrR8Rm8 (r : Reg) (rm : RM) (s : State) : Out :=
  perform (.none) s fun s => s.aluRegRM .or .b8 r rm

/-- OR r16,r/m16 and r32,r/m32 (R371). -/
def execOrRvRmv (r : Reg) (rm : RM) (s : State) : Out :=
  perform (.none) s fun s => s.aluRegRM .or s.opSize.width r rm

/-- OR AL,imm8 (R371). -/
def execOrAlImm8 (imm : BitVec 8) (s : State) : Out :=
  perform (.none) s fun s => .ok (s.aluReg .or .b8 .eax imm)

/-- OR AX,imm16 and EAX,imm32 (R371). -/
def execOrEaxImmv (imm : VImm) (s : State) : Out :=
  perform (.none) s fun s => .ok (s.aluReg .or s.opSize.width .eax (imm.at s.opSize.width))

/-- OR r/m8,imm8 (R371). -/
def execOrRm8Imm8 (rm : RM) (imm : BitVec 8) (s : State) : Out :=
  perform (.lockMem rm) s fun s => s.aluRM .or .b8 rm imm

/-- OR r/m16,imm16 and r/m32,imm32 (R371). -/
def execOrRmvImmv (rm : RM) (imm : VImm) (s : State) : Out :=
  perform (.lockMem rm) s fun s => s.aluRM .or s.opSize.width rm (imm.at s.opSize.width)

/-- OR r/m16,imm8 and r/m32,imm8, the immediate sign-extended (R371). -/
def execOrRmvImm8 (rm : RM) (imm : BitVec 8) (s : State) : Out :=
  perform (.lockMem rm) s fun s => s.aluRM .or s.opSize.width rm (immSext s.opSize.width imm)

/-- ADC r/m8,r8 (R204). -/
def execAdcRm8R8 (rm : RM) (r : Reg) (s : State) : Out :=
  perform (.lockMem rm) s fun s => s.aluRM .adc .b8 rm (s.reg .b8 r)

/-- ADC r/m16,r16 and r/m32,r32 (R204). -/
def execAdcRmvRv (rm : RM) (r : Reg) (s : State) : Out :=
  perform (.lockMem rm) s fun s => s.aluRM .adc s.opSize.width rm (s.reg s.opSize.width r)

/-- ADC r8,r/m8 (R204). -/
def execAdcR8Rm8 (r : Reg) (rm : RM) (s : State) : Out :=
  perform (.none) s fun s => s.aluRegRM .adc .b8 r rm

/-- ADC r16,r/m16 and r32,r/m32 (R204). -/
def execAdcRvRmv (r : Reg) (rm : RM) (s : State) : Out :=
  perform (.none) s fun s => s.aluRegRM .adc s.opSize.width r rm

/-- ADC AL,imm8 (R204). -/
def execAdcAlImm8 (imm : BitVec 8) (s : State) : Out :=
  perform (.none) s fun s => .ok (s.aluReg .adc .b8 .eax imm)

/-- ADC AX,imm16 and EAX,imm32 (R204). -/
def execAdcEaxImmv (imm : VImm) (s : State) : Out :=
  perform (.none) s fun s => .ok (s.aluReg .adc s.opSize.width .eax (imm.at s.opSize.width))

/-- ADC r/m8,imm8 (R204). -/
def execAdcRm8Imm8 (rm : RM) (imm : BitVec 8) (s : State) : Out :=
  perform (.lockMem rm) s fun s => s.aluRM .adc .b8 rm imm

/-- ADC r/m16,imm16 and r/m32,imm32 (R204). -/
def execAdcRmvImmv (rm : RM) (imm : VImm) (s : State) : Out :=
  perform (.lockMem rm) s fun s => s.aluRM .adc s.opSize.width rm (imm.at s.opSize.width)

/-- ADC r/m16,imm8 and r/m32,imm8, the immediate sign-extended (R204). -/
def execAdcRmvImm8 (rm : RM) (imm : BitVec 8) (s : State) : Out :=
  perform (.lockMem rm) s fun s => s.aluRM .adc s.opSize.width rm (immSext s.opSize.width imm)

/-- SBB r/m8,r8 (R425). -/
def execSbbRm8R8 (rm : RM) (r : Reg) (s : State) : Out :=
  perform (.lockMem rm) s fun s => s.aluRM .sbb .b8 rm (s.reg .b8 r)

/-- SBB r/m16,r16 and r/m32,r32 (R425). -/
def execSbbRmvRv (rm : RM) (r : Reg) (s : State) : Out :=
  perform (.lockMem rm) s fun s => s.aluRM .sbb s.opSize.width rm (s.reg s.opSize.width r)

/-- SBB r8,r/m8 (R425). -/
def execSbbR8Rm8 (r : Reg) (rm : RM) (s : State) : Out :=
  perform (.none) s fun s => s.aluRegRM .sbb .b8 r rm

/-- SBB r16,r/m16 and r32,r/m32 (R425). -/
def execSbbRvRmv (r : Reg) (rm : RM) (s : State) : Out :=
  perform (.none) s fun s => s.aluRegRM .sbb s.opSize.width r rm

/-- SBB AL,imm8 (R425). -/
def execSbbAlImm8 (imm : BitVec 8) (s : State) : Out :=
  perform (.none) s fun s => .ok (s.aluReg .sbb .b8 .eax imm)

/-- SBB AX,imm16 and EAX,imm32 (R425). -/
def execSbbEaxImmv (imm : VImm) (s : State) : Out :=
  perform (.none) s fun s => .ok (s.aluReg .sbb s.opSize.width .eax (imm.at s.opSize.width))

/-- SBB r/m8,imm8 (R425). -/
def execSbbRm8Imm8 (rm : RM) (imm : BitVec 8) (s : State) : Out :=
  perform (.lockMem rm) s fun s => s.aluRM .sbb .b8 rm imm

/-- SBB r/m16,imm16 and r/m32,imm32 (R425). -/
def execSbbRmvImmv (rm : RM) (imm : VImm) (s : State) : Out :=
  perform (.lockMem rm) s fun s => s.aluRM .sbb s.opSize.width rm (imm.at s.opSize.width)

/-- SBB r/m16,imm8 and r/m32,imm8, the immediate sign-extended (R425). -/
def execSbbRmvImm8 (rm : RM) (imm : BitVec 8) (s : State) : Out :=
  perform (.lockMem rm) s fun s => s.aluRM .sbb s.opSize.width rm (immSext s.opSize.width imm)

/-- AND r/m8,r8 (R206). -/
def execAndRm8R8 (rm : RM) (r : Reg) (s : State) : Out :=
  perform (.lockMem rm) s fun s => s.aluRM .and .b8 rm (s.reg .b8 r)

/-- AND r/m16,r16 and r/m32,r32 (R206). -/
def execAndRmvRv (rm : RM) (r : Reg) (s : State) : Out :=
  perform (.lockMem rm) s fun s => s.aluRM .and s.opSize.width rm (s.reg s.opSize.width r)

/-- AND r8,r/m8 (R206). -/
def execAndR8Rm8 (r : Reg) (rm : RM) (s : State) : Out :=
  perform (.none) s fun s => s.aluRegRM .and .b8 r rm

/-- AND r16,r/m16 and r32,r/m32 (R206). -/
def execAndRvRmv (r : Reg) (rm : RM) (s : State) : Out :=
  perform (.none) s fun s => s.aluRegRM .and s.opSize.width r rm

/-- AND AL,imm8 (R206). -/
def execAndAlImm8 (imm : BitVec 8) (s : State) : Out :=
  perform (.none) s fun s => .ok (s.aluReg .and .b8 .eax imm)

/-- AND AX,imm16 and EAX,imm32 (R206). -/
def execAndEaxImmv (imm : VImm) (s : State) : Out :=
  perform (.none) s fun s => .ok (s.aluReg .and s.opSize.width .eax (imm.at s.opSize.width))

/-- AND r/m8,imm8 (R206). -/
def execAndRm8Imm8 (rm : RM) (imm : BitVec 8) (s : State) : Out :=
  perform (.lockMem rm) s fun s => s.aluRM .and .b8 rm imm

/-- AND r/m16,imm16 and r/m32,imm32 (R206). -/
def execAndRmvImmv (rm : RM) (imm : VImm) (s : State) : Out :=
  perform (.lockMem rm) s fun s => s.aluRM .and s.opSize.width rm (imm.at s.opSize.width)

/-- AND r/m16,imm8 and r/m32,imm8, the immediate sign-extended (R206). -/
def execAndRmvImm8 (rm : RM) (imm : BitVec 8) (s : State) : Out :=
  perform (.lockMem rm) s fun s => s.aluRM .and s.opSize.width rm (immSext s.opSize.width imm)

/-- SUB r/m8,r8 (R438). -/
def execSubRm8R8 (rm : RM) (r : Reg) (s : State) : Out :=
  perform (.lockMem rm) s fun s => s.aluRM .sub .b8 rm (s.reg .b8 r)

/-- SUB r/m16,r16 and r/m32,r32 (R438). -/
def execSubRmvRv (rm : RM) (r : Reg) (s : State) : Out :=
  perform (.lockMem rm) s fun s => s.aluRM .sub s.opSize.width rm (s.reg s.opSize.width r)

/-- SUB r8,r/m8 (R438). -/
def execSubR8Rm8 (r : Reg) (rm : RM) (s : State) : Out :=
  perform (.none) s fun s => s.aluRegRM .sub .b8 r rm

/-- SUB r16,r/m16 and r32,r/m32 (R438). -/
def execSubRvRmv (r : Reg) (rm : RM) (s : State) : Out :=
  perform (.none) s fun s => s.aluRegRM .sub s.opSize.width r rm

/-- SUB AL,imm8 (R438). -/
def execSubAlImm8 (imm : BitVec 8) (s : State) : Out :=
  perform (.none) s fun s => .ok (s.aluReg .sub .b8 .eax imm)

/-- SUB AX,imm16 and EAX,imm32 (R438). -/
def execSubEaxImmv (imm : VImm) (s : State) : Out :=
  perform (.none) s fun s => .ok (s.aluReg .sub s.opSize.width .eax (imm.at s.opSize.width))

/-- SUB r/m8,imm8 (R438). -/
def execSubRm8Imm8 (rm : RM) (imm : BitVec 8) (s : State) : Out :=
  perform (.lockMem rm) s fun s => s.aluRM .sub .b8 rm imm

/-- SUB r/m16,imm16 and r/m32,imm32 (R438). -/
def execSubRmvImmv (rm : RM) (imm : VImm) (s : State) : Out :=
  perform (.lockMem rm) s fun s => s.aluRM .sub s.opSize.width rm (imm.at s.opSize.width)

/-- SUB r/m16,imm8 and r/m32,imm8, the immediate sign-extended (R438). -/
def execSubRmvImm8 (rm : RM) (imm : BitVec 8) (s : State) : Out :=
  perform (.lockMem rm) s fun s => s.aluRM .sub s.opSize.width rm (immSext s.opSize.width imm)

/-- XOR r/m8,r8 (R444). -/
def execXorRm8R8 (rm : RM) (r : Reg) (s : State) : Out :=
  perform (.lockMem rm) s fun s => s.aluRM .xor .b8 rm (s.reg .b8 r)

/-- XOR r/m16,r16 and r/m32,r32 (R444). -/
def execXorRmvRv (rm : RM) (r : Reg) (s : State) : Out :=
  perform (.lockMem rm) s fun s => s.aluRM .xor s.opSize.width rm (s.reg s.opSize.width r)

/-- XOR r8,r/m8 (R444). -/
def execXorR8Rm8 (r : Reg) (rm : RM) (s : State) : Out :=
  perform (.none) s fun s => s.aluRegRM .xor .b8 r rm

/-- XOR r16,r/m16 and r32,r/m32 (R444). -/
def execXorRvRmv (r : Reg) (rm : RM) (s : State) : Out :=
  perform (.none) s fun s => s.aluRegRM .xor s.opSize.width r rm

/-- XOR AL,imm8 (R444). -/
def execXorAlImm8 (imm : BitVec 8) (s : State) : Out :=
  perform (.none) s fun s => .ok (s.aluReg .xor .b8 .eax imm)

/-- XOR AX,imm16 and EAX,imm32 (R444). -/
def execXorEaxImmv (imm : VImm) (s : State) : Out :=
  perform (.none) s fun s => .ok (s.aluReg .xor s.opSize.width .eax (imm.at s.opSize.width))

/-- XOR r/m8,imm8 (R444). -/
def execXorRm8Imm8 (rm : RM) (imm : BitVec 8) (s : State) : Out :=
  perform (.lockMem rm) s fun s => s.aluRM .xor .b8 rm imm

/-- XOR r/m16,imm16 and r/m32,imm32 (R444). -/
def execXorRmvImmv (rm : RM) (imm : VImm) (s : State) : Out :=
  perform (.lockMem rm) s fun s => s.aluRM .xor s.opSize.width rm (imm.at s.opSize.width)

/-- XOR r/m16,imm8 and r/m32,imm8, the immediate sign-extended (R444). -/
def execXorRmvImm8 (rm : RM) (imm : BitVec 8) (s : State) : Out :=
  perform (.lockMem rm) s fun s => s.aluRM .xor s.opSize.width rm (immSext s.opSize.width imm)

/-- CMP r/m8,r8 (R246). -/
def execCmpRm8R8 (rm : RM) (r : Reg) (s : State) : Out :=
  perform (.none) s fun s => s.cmpRM .b8 rm (s.reg .b8 r)

/-- CMP r/m16,r16 and r/m32,r32 (R246). -/
def execCmpRmvRv (rm : RM) (r : Reg) (s : State) : Out :=
  perform (.none) s fun s => s.cmpRM s.opSize.width rm (s.reg s.opSize.width r)

/-- CMP r8,r/m8 (R246). -/
def execCmpR8Rm8 (r : Reg) (rm : RM) (s : State) : Out :=
  perform (.none) s fun s => s.cmpRegRM .b8 r rm

/-- CMP r16,r/m16 and r32,r/m32 (R246). -/
def execCmpRvRmv (r : Reg) (rm : RM) (s : State) : Out :=
  perform (.none) s fun s => s.cmpRegRM s.opSize.width r rm

/-- CMP AL,imm8 (R246). -/
def execCmpAlImm8 (imm : BitVec 8) (s : State) : Out :=
  perform (.none) s fun s => .ok (s.cmpReg .b8 .eax imm)

/-- CMP AX,imm16 and EAX,imm32 (R246). -/
def execCmpEaxImmv (imm : VImm) (s : State) : Out :=
  perform (.none) s fun s => .ok (s.cmpReg s.opSize.width .eax (imm.at s.opSize.width))

/-- CMP r/m8,imm8 (R246). -/
def execCmpRm8Imm8 (rm : RM) (imm : BitVec 8) (s : State) : Out :=
  perform (.none) s fun s => s.cmpRM .b8 rm imm

/-- CMP r/m16,imm16 and r/m32,imm32 (R246). -/
def execCmpRmvImmv (rm : RM) (imm : VImm) (s : State) : Out :=
  perform (.none) s fun s => s.cmpRM s.opSize.width rm (imm.at s.opSize.width)

/-- CMP r/m16,imm8 and r/m32,imm8, the immediate sign-extended (R246). -/
def execCmpRmvImm8 (rm : RM) (imm : BitVec 8) (s : State) : Out :=
  perform (.none) s fun s => s.cmpRM s.opSize.width rm (immSext s.opSize.width imm)

/-- TEST r/m8,r8 (R439). -/
def execTestRm8R8 (rm : RM) (r : Reg) (s : State) : Out :=
  perform (.none) s fun s => s.testRM .b8 rm (s.reg .b8 r)

/-- TEST r/m16,r16 and r/m32,r32 (R439). -/
def execTestRmvRv (rm : RM) (r : Reg) (s : State) : Out :=
  perform (.none) s fun s => s.testRM s.opSize.width rm (s.reg s.opSize.width r)

/-- TEST AL,imm8 (R439). -/
def execTestAlImm8 (imm : BitVec 8) (s : State) : Out :=
  perform (.none) s fun s => .ok (s.logicFlags (s.reg .b8 .eax &&& imm))

/-- TEST AX,imm16 and EAX,imm32 (R439). -/
def execTestEaxImmv (imm : VImm) (s : State) : Out :=
  perform (.none) s fun s => .ok (s.logicFlags (s.reg s.opSize.width .eax &&& imm.at s.opSize.width))

/-- TEST r/m8,imm8 (R439). -/
def execTestRm8Imm8 (rm : RM) (imm : BitVec 8) (s : State) : Out :=
  perform (.none) s fun s => s.testRM .b8 rm imm

/-- TEST r/m16,imm16 and r/m32,imm32 (R439). -/
def execTestRmvImmv (rm : RM) (imm : VImm) (s : State) : Out :=
  perform (.none) s fun s => s.testRM s.opSize.width rm (imm.at s.opSize.width)

/-- INC r16 and r32 (R275). -/
def execIncRv (r : Reg) (s : State) : Out :=
  perform (.none) s fun s => s.incRM s.opSize.width (.reg r)

/-- DEC r16 and r32 (R251). -/
def execDecRv (r : Reg) (s : State) : Out :=
  perform (.none) s fun s => s.decRM s.opSize.width (.reg r)

/-- INC r/m8 (R275). -/
def execIncRm8 (rm : RM) (s : State) : Out :=
  perform (.lockMem rm) s fun s => s.incRM .b8 rm

/-- INC r/m16 and r/m32 (R275). -/
def execIncRmv (rm : RM) (s : State) : Out :=
  perform (.lockMem rm) s fun s => s.incRM s.opSize.width rm

/-- DEC r/m8 (R251). -/
def execDecRm8 (rm : RM) (s : State) : Out :=
  perform (.lockMem rm) s fun s => s.decRM .b8 rm

/-- DEC r/m16 and r/m32 (R251). -/
def execDecRmv (rm : RM) (s : State) : Out :=
  perform (.lockMem rm) s fun s => s.decRM s.opSize.width rm

/-- NEG r/m8 (R366). -/
def execNegRm8 (rm : RM) (s : State) : Out :=
  perform (.lockMem rm) s fun s => s.negRM .b8 rm

/-- NEG r/m16 and r/m32 (R366). -/
def execNegRmv (rm : RM) (s : State) : Out :=
  perform (.lockMem rm) s fun s => s.negRM s.opSize.width rm

/-- NOT r/m8 (R370). -/
def execNotRm8 (rm : RM) (s : State) : Out :=
  perform (.lockMem rm) s fun s => s.notRM .b8 rm

/-- NOT r/m16 and r/m32 (R370). -/
def execNotRmv (rm : RM) (s : State) : Out :=
  perform (.lockMem rm) s fun s => s.notRM s.opSize.width rm

end Sys2Proof.Machine
end

