-- ==== Sys2Proof/Machine/Bits.lean ====
section
/-! DEFINITION. Machine/Bits.lean: BT, BTS, BTR, BTC, BSF, BSR and SETcc. -/

namespace Sys2Proof.Machine

/-- What a bit-test instruction does to the selected bit (R211, R212, R214, R215). -/
inductive BitOp where
  | test | set | reset | complement
deriving DecidableEq, Repr

/-- The value with bit `k` changed. -/
def BitOp.apply {n : Nat} (op : BitOp) (v : BitVec n) (k : Nat) : BitVec n :=
  match op with
  | .test => v
  | .set => v ||| BitVec.ofNat n 1 <<< k
  | .reset => v &&& ~~~(BitVec.ofNat n 1 <<< k)
  | .complement => v ^^^ BitVec.ofNat n 1 <<< k

/-- The flags of a bit test: CF is the bit, the others are undefined (R50, R211). -/
def State.bitFlags (s : State) (b : Bool) : State :=
  { s with flags := { s.flags with cf := b } }.undefineFlags [.pf, .af, .zf, .sf, .ofl]

/-- The distance in bytes from the effective address to the unit that holds a register bit offset: the width in bytes
times the offset divided by the width, rounded toward minus infinity (R213). -/
def bitUnitOffset (sz : Size) (off : BitVec 32) : BitVec 32 :=
  match sz with
  | .s16 => ((off.setWidth 16).signExtend 32).sshiftRight 4 <<< 1
  | .s32 => off.sshiftRight 5 <<< 2

/-- A bit test of a register operand at bit `k`. -/
def State.bitReg (s : State) (op : BitOp) (w : Width) (r : Reg) (k : Nat) : State :=
  (s.bitFlags ((s.reg w r).getLsbD k)).setReg w r (op.apply (s.reg w r) k)

/-- A bit test of the unit at an offset of memory, at bit `k`: BT only reads it, the others write it back (R213, D31). -/
def State.bitMem (s : State) (op : BitOp) (w : Width) (seg : SReg) (off : BitVec 32) (k : Nat) : Res State :=
  if op == .test then
    match s.memRead seg w off with
    | .error e => .error e
    | .ok v => .ok (s.bitFlags (v.getLsbD k))
  else
    match s.writeCheck seg off w.bytes with
    | .error e => .error e
    | .ok _ =>
      match s.memRead seg w off with
      | .error e => .error e
      | .ok v => (s.bitFlags (v.getLsbD k)).memWrite seg w off (op.apply v k)

/-- A bit test with an immediate bit offset, taken modulo the width (R213). -/
def State.bitImm (s : State) (op : BitOp) (rm : RM) (imm : BitVec 8) : Res State :=
  match rm with
  | .reg r => .ok (s.bitReg op s.opSize.width r (imm.toNat % s.opSize.width.bits))
  | .mem ea => s.bitMem op s.opSize.width (s.eaSeg ea) (s.eaOff ea) (imm.toNat % s.opSize.width.bits)

/-- A bit test with a register bit offset: signed, and reaching beyond the operand in memory (R213). -/
def State.bitOffset (s : State) (op : BitOp) (rm : RM) (r : Reg) : Res State :=
  let off := s.eReg s.opSize r
  match rm with
  | .reg b => .ok (s.bitReg op s.opSize.width b (off.toNat % s.opSize.width.bits))
  | .mem ea =>
    s.bitMem op s.opSize.width (s.eaSeg ea) (addOffset s.addrSize (s.eaOff ea) (bitUnitOffset s.opSize off))
      (off.toNat % s.opSize.width.bits)

/-- The lowest set bit at or above `i`, looking at `fuel` bits (R209). -/
def scanUp {n : Nat} (v : BitVec n) : Nat → Nat → Nat
  | 0, i => i
  | k + 1, i => if v.getLsbD i then i else scanUp v k (i + 1)

/-- The highest set bit at or below `i` (R210). -/
def scanDown {n : Nat} (v : BitVec n) : Nat → Nat
  | 0 => 0
  | i + 1 => if v.getLsbD (i + 1) then i + 1 else scanDown v i

/-- The flags of a bit scan: ZF tells a zero source, the others are undefined (R209, R210). -/
def State.scanFlags (s : State) (zero : Bool) : State :=
  { s with flags := { s.flags with zf := zero } }.undefineFlags [.cf, .pf, .af, .sf, .ofl]

/-- A bit scan: a zero source leaves the destination undefined, else it gets the index (R209, R210, D14). -/
def State.scanRM (s : State) (r : Reg) (rm : RM) (index : BitVec s.opSize.width.bits → Nat) : Res State :=
  match s.readRM s.opSize.width rm with
  | .error e => .error e
  | .ok v =>
    if v = 0 then .ok ((s.draw.2.scanFlags true).setReg s.opSize.width r (s.draw.1.setWidth _))
    else .ok ((s.scanFlags false).setReg s.opSize.width r (BitVec.ofNat _ (index v)))

/-- SETcc: the byte 1 or 0 (R427). -/
def State.setCond (s : State) (n : Nat) (rm : RM) : Res State := s.writeRM .b8 rm (BitVec.ofNat 8 (s.flags.cond n).toNat)

/-- BT r/m16,imm8 and r/m32,imm8 (R211). -/
def execBtRmvImm8 (rm : RM) (imm : BitVec 8) (s : State) : Out :=
  perform (.lockMem rm) s fun s => s.bitImm .test rm imm

/-- BT r/m16,r16 and r/m32,r32 (R211). -/
def execBtRmvRv (rm : RM) (r : Reg) (s : State) : Out :=
  perform (.lockMem rm) s fun s => s.bitOffset .test rm r

/-- BTS r/m16,imm8 and r/m32,imm8 (R215). -/
def execBtsRmvImm8 (rm : RM) (imm : BitVec 8) (s : State) : Out :=
  perform (.lockMem rm) s fun s => s.bitImm .set rm imm

/-- BTS r/m16,r16 and r/m32,r32 (R215). -/
def execBtsRmvRv (rm : RM) (r : Reg) (s : State) : Out :=
  perform (.lockMem rm) s fun s => s.bitOffset .set rm r

/-- BTR r/m16,imm8 and r/m32,imm8 (R214). -/
def execBtrRmvImm8 (rm : RM) (imm : BitVec 8) (s : State) : Out :=
  perform (.lockMem rm) s fun s => s.bitImm .reset rm imm

/-- BTR r/m16,r16 and r/m32,r32 (R214). -/
def execBtrRmvRv (rm : RM) (r : Reg) (s : State) : Out :=
  perform (.lockMem rm) s fun s => s.bitOffset .reset rm r

/-- BTC r/m16,imm8 and r/m32,imm8 (R212). -/
def execBtcRmvImm8 (rm : RM) (imm : BitVec 8) (s : State) : Out :=
  perform (.lockMem rm) s fun s => s.bitImm .complement rm imm

/-- BTC r/m16,r16 and r/m32,r32 (R212). -/
def execBtcRmvRv (rm : RM) (r : Reg) (s : State) : Out :=
  perform (.lockMem rm) s fun s => s.bitOffset .complement rm r

/-- BSF (R209). -/
def execBsf (r : Reg) (rm : RM) (s : State) : Out :=
  perform .none s fun s => s.scanRM r rm fun v => scanUp v s.opSize.width.bits 0

/-- BSR (R210). -/
def execBsr (r : Reg) (rm : RM) (s : State) : Out :=
  perform .none s fun s => s.scanRM r rm fun v => scanDown v (s.opSize.width.bits - 1)

/-- SETO r/m8 (R427). -/
def execSeto (rm : RM) (s : State) : Out := perform .none s fun s => s.setCond 0 rm

/-- SETNO r/m8 (R427). -/
def execSetno (rm : RM) (s : State) : Out := perform .none s fun s => s.setCond 1 rm

/-- SETB r/m8 (R427). -/
def execSetb (rm : RM) (s : State) : Out := perform .none s fun s => s.setCond 2 rm

/-- SETNB r/m8 (R427). -/
def execSetnb (rm : RM) (s : State) : Out := perform .none s fun s => s.setCond 3 rm

/-- SETZ r/m8 (R427). -/
def execSetz (rm : RM) (s : State) : Out := perform .none s fun s => s.setCond 4 rm

/-- SETNZ r/m8 (R427). -/
def execSetnz (rm : RM) (s : State) : Out := perform .none s fun s => s.setCond 5 rm

/-- SETBE r/m8 (R427). -/
def execSetbe (rm : RM) (s : State) : Out := perform .none s fun s => s.setCond 6 rm

/-- SETNBE r/m8 (R427). -/
def execSetnbe (rm : RM) (s : State) : Out := perform .none s fun s => s.setCond 7 rm

/-- SETS r/m8 (R427). -/
def execSets (rm : RM) (s : State) : Out := perform .none s fun s => s.setCond 8 rm

/-- SETNS r/m8 (R427). -/
def execSetns (rm : RM) (s : State) : Out := perform .none s fun s => s.setCond 9 rm

/-- SETP r/m8 (R427). -/
def execSetp (rm : RM) (s : State) : Out := perform .none s fun s => s.setCond 10 rm

/-- SETNP r/m8 (R427). -/
def execSetnp (rm : RM) (s : State) : Out := perform .none s fun s => s.setCond 11 rm

/-- SETL r/m8 (R427). -/
def execSetl (rm : RM) (s : State) : Out := perform .none s fun s => s.setCond 12 rm

/-- SETNL r/m8 (R427). -/
def execSetnl (rm : RM) (s : State) : Out := perform .none s fun s => s.setCond 13 rm

/-- SETLE r/m8 (R427). -/
def execSetle (rm : RM) (s : State) : Out := perform .none s fun s => s.setCond 14 rm

/-- SETNLE r/m8 (R427). -/
def execSetnle (rm : RM) (s : State) : Out := perform .none s fun s => s.setCond 15 rm

end Sys2Proof.Machine
end

