-- ==== Sys2Proof/Machine/Control.lean ====
section
/-! DEFINITION. Machine/Control.lean: Jcc, JCXZ, LOOP, JMP, CALL, RET. -/

namespace Sys2Proof

/-- The displacement of a relative jump, sign-extended (R148, R310). -/
def Rel.value : Rel → BitVec 32
  | .short d => d.signExtend 32
  | .near v => v.sext

end Sys2Proof

namespace Sys2Proof.Machine

/-! ### Near transfers -/

/-- The target of a relative transfer: next_eip plus the displacement, cut to OperandSize (R230, R310, R312). -/
def State.relTarget (s : State) (d : BitVec 32) : BitVec 32 := truncSize s.opSize (s.eip + d)

/-- A target of a near transfer: #GP(0) beyond the code segment limit in Protected Mode; elsewhere the limit is checked
by the next fetch only (R310, R107, log 23). -/
def State.needTarget (s : State) (eip : BitVec 32) : Res Unit :=
  need (!s.protectedMode || s.segs.cs.ipOk eip) (excGP 0)

/-- A near jump (R310 to R313). -/
def State.jumpNear (s : State) (eip : BitVec 32) : Res State :=
  match s.needTarget eip with
  | .error e => .error e
  | .ok _ => .ok (s.jumpTo eip)

/-- A conditional relative jump; not taken it only passes the instruction (R310). -/
def State.jumpIf (s : State) (c : Bool) (d : BitVec 32) : Res State :=
  if c then s.jumpNear (s.relTarget d) else .ok s

/-- Jcc (R310, R35). -/
def State.jcc (s : State) (n : Nat) (rel : Rel) : Res State := s.jumpIf (s.flags.cond n) rel.value

/-- A count register at the address size (R311, R345). -/
def State.countReg (s : State) : BitVec 32 := s.eReg s.addrSize .ecx

/-- LOOP, LOOPE and LOOPNE: counts down and jumps while the count is not 0 and `c` holds (R345). -/
def State.loopIf (s : State) (c : Bool) (rel : BitVec 8) : Res State :=
  let t := s.setEReg s.addrSize .ecx (s.countReg - 1)
  t.jumpIf (c && t.countReg != 0) (rel.signExtend 32)

/-- A near call (R230, R231): the return offset is pushed at the operand size. -/
def State.callNear (s : State) (eip : BitVec 32) : Res State :=
  match s.needTarget eip with
  | .error e => .error e
  | .ok _ =>
    match s.push s.opSize s.eip with
    | .error e => .error e
    | .ok t => .ok (t.jumpTo eip)

/-- An indirect near target: the operand, zero-extended (R231, R313). -/
def State.nearTarget (s : State) (rm : RM) : Res (BitVec 32) :=
  match s.readRM s.opSize.width rm with
  | .error e => .error e
  | .ok v => .ok (v.setWidth 32)

/-- A near return that also releases `imm` bytes (R410). -/
def State.retNear (s : State) (imm : BitVec 16) : Res State :=
  match s.pop s.opSize with
  | .error e => .error e
  | .ok (ip, t) =>
    match s.needTarget ip with
    | .error e => .error e
    | .ok _ => .ok ((t.dropStack (imm.setWidth 32)).jumpTo ip)

/-! ### Far transfers: the checks of Protected Mode -/

/-- The destination is a task gate or a task state segment (R235, R317, R318): its checks, then the task switch, which
is refused (D8). `e` is #TS for CALL and #GP for JMP, as each page prints it. -/
def State.farTask (s : State) (sel : BitVec 16) (d : Desc) (e : BitVec 16 → Exc) : Res State := do
  need (decide (s.cpl ≤ d.dpl)) (e (selCode sel))
  need (decide (rpl sel ≤ d.dpl)) (e (selCode sel))
  if d.typ == 5 then do
    need d.present (excNP (selCode sel))
    s.checkTss d.gateSel e [1, 9]
    .error (.refuse .taskSwitch)
  else do
    need (d.isSys [1, 9]) (e (selCode sel))
    need d.present (excNP (selCode sel))
    .error (.refuse .taskSwitch)

/-- The checks of a code segment named by the instruction itself, and what CS then holds: its RPL becomes CPL (R233,
R315). -/
def State.checkCode (s : State) (sel : BitVec 16) (d : Desc) : Res SegReg := do
  need (d.ce || decide (rpl sel ≤ s.cpl)) (excGP (selCode sel))
  need (if d.ce then decide (d.dpl ≤ s.cpl) else d.dpl == s.cpl) (excGP (selCode sel))
  need d.present (excNP (selCode sel))
  pure (d.toSeg (withRpl sel s.cpl))

/-- The checks of a call gate itself (R234, R316). -/
def State.checkGate (s : State) (sel : BitVec 16) (g : Desc) : Res Unit := do
  need (decide (s.cpl ≤ g.dpl)) (excGP (selCode sel))
  need (decide (rpl sel ≤ g.dpl)) (excGP (selCode sel))
  need g.present (excNP (selCode sel))

/-- The code segment that a call gate names: not null, within its table, code (R234, R316). -/
def State.gateCode (s : State) (g : Desc) : Res Desc := do
  need (!isNull g.gateSel) (excGP 0)
  let d ← s.descOf g.gateSel (excGP (selCode g.gateSel))
  need d.isCode (excGP (selCode g.gateSel))
  pure d

/-- The descriptor that a far transfer names (R233, R315). -/
def State.farDesc (s : State) (sel : BitVec 16) : Res Desc := do
  need (!isNull sel) (excGP 0)
  s.descOf sel (excGP (selCode sel))

/-! ### Far JMP -/

/-- A jump to a code segment whose checks have passed (R315, R316). -/
def State.jumpCode (s : State) (cs : SegReg) (off : BitVec 32) : Res State := do
  need (cs.ipOk off) (excGP 0)
  pure (s.jumpFar cs off)

/-- A jump through a call gate (R316). -/
def State.jumpGate (s : State) (sel : BitVec 16) (g : Desc) : Res State := do
  s.checkGate sel g
  let d ← s.gateCode g
  need (if d.ce then decide (d.dpl ≤ s.cpl) else d.dpl == s.cpl) (excGP (selCode g.gateSel))
  need d.present (excNP (selCode g.gateSel))
  s.jumpCode (d.toSeg (withRpl g.gateSel s.cpl)) g.gateOffset

/-- A far jump (R314, R315). Outside Protected Mode the next fetch checks the target (R107, log 23). -/
def State.farJump (s : State) (off : BitVec 32) (sel : BitVec 16) : Res State :=
  if s.protectedMode then do
    let d ← s.farDesc sel
    if d.isCode then do
      let cs ← s.checkCode sel d
      s.jumpCode cs off
    else if d.isSys [4, 12] then s.jumpGate sel d
    else if d.isSys [1, 3, 5, 9, 11] then s.farTask sel d excGP
    else raise (excGP (selCode sel))
  else .ok (s.jumpFar (SegReg.real sel) off)

/-! ### Far CALL -/

/-- Pushes the return address of a far call: CS, then next_eip (R232). -/
def State.pushReturn (s : State) (size : Size) (cs : BitVec 16) (eip : BitVec 32) : Res State :=
  match s.pushWord size cs with
  | .error e => .error e
  | .ok t => t.push size eip

/-- A call to a code segment at the same privilege level whose other checks have passed (R233, R234). -/
def State.callCode (s : State) (size : Size) (cs : SegReg) (off : BitVec 32) : Res State := do
  need (s.segs.ss.stackRoom (s.eReg s.stackSize .esp) (2 * size.bytes)) (excSS 0)
  need (cs.ipOk off) (excGP 0)
  let t ← s.pushReturn size s.segs.cs.sel s.eip
  pure (t.jumpFar cs off)

/-- Copies the items at the top of the stack of `old` onto the stack of a state, the highest first, each read and then
pushed: the parameters of a call gate (R234, R106). The old stack is read with the segment and the level of `old`. -/
def State.copyParams (old : State) (size : Size) : Nat → State → Res State
  | 0, t => .ok t
  | n + 1, t =>
    match { old with mem := t.mem }.stackItem size (n * size.bytes) with
    | .error e => .error e
    | .ok v =>
      match t.push size v with
      | .error e => .error e
      | .ok u => old.copyParams size n u

/-- A call through a gate to more privilege: the stack of the inner level from the task state segment, and on it the old
stack pointer, the parameters and the return address (R234). With paging on, the pushes are translated at the new level and the
parameters read at the old one (DESIGN CHOICE, log 54, unsafe); a 32-bit gate pushes all of the old ESP also when the old
stack is a 16-bit one (DEDUCED, log 56, unsafe). -/
def State.callInner (s : State) (g : Desc) (cs : SegReg) : Res State := do
  let (ssSel, sp) ← s.tssStack cs.dpl 0
  let ss ← s.checkNewStack ssSel cs.dpl (excTS 0) 0
  need (ss.stackRoom sp (g.gateSize.bytes * (4 + g.gateCount))) (excSS 0)
  need (cs.ipOk g.gateOffset) (excGP 0)
  let a := (s.setSeg .cs cs).loadStack ss sp
  let b ← a.pushWord g.gateSize s.segs.ss.sel
  let c ← b.push g.gateSize s.gpr.esp
  let d ← s.copyParams g.gateSize g.gateCount c
  let f ← d.pushReturn g.gateSize s.segs.cs.sel s.eip
  pure (f.jumpTo g.gateOffset)

/-- A call through a call gate (R234). -/
def State.callGate (s : State) (sel : BitVec 16) (g : Desc) : Res State := do
  s.checkGate sel g
  let d ← s.gateCode g
  need (decide (d.dpl ≤ s.cpl)) (excGP (selCode g.gateSel))
  need d.present (excNP (selCode g.gateSel))
  if !d.ce && decide (d.dpl < s.cpl) then s.callInner g (d.toSeg (withRpl g.gateSel d.dpl))
  else s.callCode g.gateSize (d.toSeg (withRpl g.gateSel s.cpl)) g.gateOffset

/-- A far call (R232, R233). Outside Protected Mode a target beyond FFFFH is Interrupt 13 of the call itself (R232). -/
def State.farCall (s : State) (off : BitVec 32) (sel : BitVec 16) : Res State :=
  if s.protectedMode then do
    let d ← s.farDesc sel
    if d.isCode then do
      let cs ← s.checkCode sel d
      s.callCode s.opSize cs off
    else if d.isSys [4, 12] then s.callGate sel d
    else if d.isSys [1, 3, 5, 9, 11] then s.farTask sel d excTS
    else raise (excGP (selCode sel))
  else do
    need ((SegReg.real sel).ipOk off) (excGP 0)
    let t ← s.pushReturn s.opSize s.segs.cs.sel s.eip
    pure (t.jumpFar (SegReg.real sel) off)

/-! ### Far RET -/

/-- A far return outside Protected Mode (R411). -/
def State.retFarReal (s : State) (imm : BitVec 16) : Res State := do
  let ip ← s.stackItem s.opSize 0
  let cs ← s.stackItem s.opSize s.opSize.bytes
  let t := s.dropStack (BitVec.ofNat 32 (2 * s.opSize.bytes) + imm.setWidth 32)
  pure (t.jumpFar (SegReg.real (cs.setWidth 16)) ip)

/-- A far return to the same privilege level (R412). -/
def State.retFarSame (s : State) (sel imm : BitVec 16) : Res State := do
  let cs ← s.checkReturnCs sel
  let ip ← s.stackItem s.opSize 0
  need (cs.ipOk ip) (excGP 0)
  let t := s.dropStack (BitVec.ofNat 32 (2 * s.opSize.bytes) + imm.setWidth 32)
  pure (t.jumpFar cs ip)

/-- A far return to an outer privilege level; the immediate releases parameters on both stacks (R413). -/
def State.retFarOuter (s : State) (sel imm : BitVec 16) : Res State := do
  need (s.stackHas (4 * s.opSize.bytes + imm.toNat)) (excSS 0)
  let cs ← s.checkReturnCs sel
  let ssImg ← s.stackItem s.opSize (3 * s.opSize.bytes + imm.toNat)
  let ss ← s.checkReturnSs (ssImg.setWidth 16) (rpl sel)
  let ip ← s.stackItem s.opSize 0
  need (cs.ipOk ip) (excGP 0)
  let sp ← s.stackItem s.opSize (2 * s.opSize.bytes + imm.toNat)
  pure (((s.jumpFar cs ip).loadStack ss (sp + imm.setWidth 32)).dropInvalid)

/-- A far return (R411 to R413). -/
def State.retFar (s : State) (imm : BitVec 16) : Res State :=
  if s.protectedMode then do
    let sel ← s.memRead .ss .w16
      (addOffset s.stackSize (s.eReg s.stackSize .esp) (BitVec.ofNat 32 s.opSize.bytes))
    need (decide (s.cpl ≤ rpl sel)) (excGP (selCode sel))
    if rpl sel == s.cpl then s.retFarSame sel imm else s.retFarOuter sel imm
  else s.retFarReal imm

/-! ### Meanings -/

/-- JO: jumps if OF = 1 (R310). -/
def execJo (rel : Rel) (s : State) : Out :=
  perform .none s fun s => s.jcc 0 rel

/-- JNO: jumps if OF = 0 (R310). -/
def execJno (rel : Rel) (s : State) : Out :=
  perform .none s fun s => s.jcc 1 rel

/-- JB: jumps if CF = 1 (R310). -/
def execJb (rel : Rel) (s : State) : Out :=
  perform .none s fun s => s.jcc 2 rel

/-- JNB: jumps if CF = 0 (R310). -/
def execJnb (rel : Rel) (s : State) : Out :=
  perform .none s fun s => s.jcc 3 rel

/-- JZ: jumps if ZF = 1 (R310). -/
def execJz (rel : Rel) (s : State) : Out :=
  perform .none s fun s => s.jcc 4 rel

/-- JNZ: jumps if ZF = 0 (R310). -/
def execJnz (rel : Rel) (s : State) : Out :=
  perform .none s fun s => s.jcc 5 rel

/-- JBE: jumps if CF = 1 or ZF = 1 (R310). -/
def execJbe (rel : Rel) (s : State) : Out :=
  perform .none s fun s => s.jcc 6 rel

/-- JNBE: jumps if CF = 0 and ZF = 0 (R310). -/
def execJnbe (rel : Rel) (s : State) : Out :=
  perform .none s fun s => s.jcc 7 rel

/-- JS: jumps if SF = 1 (R310). -/
def execJs (rel : Rel) (s : State) : Out :=
  perform .none s fun s => s.jcc 8 rel

/-- JNS: jumps if SF = 0 (R310). -/
def execJns (rel : Rel) (s : State) : Out :=
  perform .none s fun s => s.jcc 9 rel

/-- JP: jumps if PF = 1 (R310). -/
def execJp (rel : Rel) (s : State) : Out :=
  perform .none s fun s => s.jcc 10 rel

/-- JNP: jumps if PF = 0 (R310). -/
def execJnp (rel : Rel) (s : State) : Out :=
  perform .none s fun s => s.jcc 11 rel

/-- JL: jumps if SF <> OF (R310). -/
def execJl (rel : Rel) (s : State) : Out :=
  perform .none s fun s => s.jcc 12 rel

/-- JNL: jumps if SF = OF (R310). -/
def execJnl (rel : Rel) (s : State) : Out :=
  perform .none s fun s => s.jcc 13 rel

/-- JLE: jumps if ZF = 1 or SF <> OF (R310). -/
def execJle (rel : Rel) (s : State) : Out :=
  perform .none s fun s => s.jcc 14 rel

/-- JNLE: jumps if ZF = 0 and SF = OF (R310). -/
def execJnle (rel : Rel) (s : State) : Out :=
  perform .none s fun s => s.jcc 15 rel

/-- JCXZ and JECXZ, by the address size (R311). -/
def execJcxzRel8 (rel : BitVec 8) (s : State) : Out :=
  perform .none s fun s => s.jumpIf (s.countReg == 0) (rel.signExtend 32)

/-- LOOP (R345). -/
def execLoopRel8 (rel : BitVec 8) (s : State) : Out :=
  perform .none s fun s => s.loopIf true rel

/-- LOOPE and LOOPZ (R345). -/
def execLoopeRel8 (rel : BitVec 8) (s : State) : Out :=
  perform .none s fun s => s.loopIf s.flags.zf rel

/-- LOOPNE and LOOPNZ (R345). -/
def execLoopneRel8 (rel : BitVec 8) (s : State) : Out :=
  perform .none s fun s => s.loopIf (!s.flags.zf) rel

/-- JMP rel8 (R312). -/
def execJmpRel8 (rel : BitVec 8) (s : State) : Out :=
  perform .none s fun s => s.jumpNear (s.relTarget (rel.signExtend 32))

/-- JMP rel16 and rel32 (R312). -/
def execJmpRelv (rel : VImm) (s : State) : Out :=
  perform .none s fun s => s.jumpNear (s.relTarget rel.sext)

/-- JMP r/m16 and r/m32 (R313). -/
def execJmpRmv (rm : RM) (s : State) : Out :=
  perform .none s fun s => (s.nearTarget rm).bind s.jumpNear

/-- JMP ptr16:16 and ptr16:32 (R314 to R318). -/
def execJmpFar (off : VImm) (sel : BitVec 16) (s : State) : Out :=
  perform .none s fun s => s.farJump off.zext sel

/-- JMP m16:16 and m16:32; a register operand is #UD (R314 to R318, R155). -/
def execJmpFarM (rm : RM) (s : State) : Out :=
  perform .none s fun s => do
    let ea ← needMem rm
    let (off, sel) ← s.farPtr ea
    s.farJump off sel

/-- CALL rel16 and rel32 (R230). -/
def execCallRelv (rel : VImm) (s : State) : Out :=
  perform .none s fun s => s.callNear (s.relTarget rel.sext)

/-- CALL r/m16 and r/m32 (R231). -/
def execCallRmv (rm : RM) (s : State) : Out :=
  perform .none s fun s => (s.nearTarget rm).bind s.callNear

/-- CALL ptr16:16 and ptr16:32 (R232 to R235). -/
def execCallFar (off : VImm) (sel : BitVec 16) (s : State) : Out :=
  perform .none s fun s => s.farCall off.zext sel

/-- CALL m16:16 and m16:32; a register operand is #UD (R232 to R235, R155). -/
def execCallFarM (rm : RM) (s : State) : Out :=
  perform .none s fun s => do
    let ea ← needMem rm
    let (off, sel) ← s.farPtr ea
    s.farCall off sel

/-- RET near (R410). -/
def execRetNear (s : State) : Out :=
  perform .none s fun s => s.retNear 0

/-- RET near imm16 (R410). -/
def execRetNearImm (imm : BitVec 16) (s : State) : Out :=
  perform .none s fun s => s.retNear imm

/-- RET far (R411 to R413). -/
def execRetFar (s : State) : Out :=
  perform .none s fun s => s.retFar 0

/-- RET far imm16 (R411 to R413). -/
def execRetFarImm (imm : BitVec 16) (s : State) : Out :=
  perform .none s fun s => s.retFar imm

end Sys2Proof.Machine
end

