-- ==== Sys2Proof/Machine/Decimal.lean ====
section
/-! DEFINITION. Machine/Decimal.lean: AAA, AAD, AAM, AAS, DAA, DAS. -/

namespace Sys2Proof.Machine

/-- AL. -/
def State.al (s : State) : BitVec 8 := s.reg .b8 .eax

/-- AH. -/
def State.ah (s : State) : BitVec 8 := s.reg .b8 .esp

/-- The state with AL and AH written. -/
def State.setAlAh (s : State) (al ah : BitVec 8) : State := (s.setReg .b8 .eax al).setReg .b8 .esp ah

/-- The low digit needs adjusting: it is above 9, or AF is set (R200, R249). -/
def State.lowAdjust (s : State) : Bool := decide (9 < (s.al &&& 0x0F).toNat) || s.flags.af

/-- AF and CF set together; OF, SF, ZF and PF undefined (R200, R203). -/
def State.asciiFlags (s : State) (b : Bool) : State :=
  { s with flags := { s.flags with af := b, cf := b } }.undefineFlags [.pf, .zf, .sf, .ofl]

/-- SF, ZF and PF from AL; OF, AF and CF undefined (R201, R202). -/
def State.aadFlags (s : State) (al : BitVec 8) : State :=
  { s with flags := s.flags.szp al }.undefineFlags [.cf, .af, .ofl]

/-- AAA (R200). -/
def State.aaa (s : State) : State :=
  if s.lowAdjust then (s.asciiFlags true).setAlAh ((s.al + 6) &&& 0x0F) (s.ah + 1)
  else (s.asciiFlags false).setAlAh (s.al &&& 0x0F) s.ah

/-- AAS (R203). -/
def State.aas (s : State) : State :=
  if s.lowAdjust then (s.asciiFlags true).setAlAh ((s.al - 6) &&& 0x0F) (s.ah - 1)
  else (s.asciiFlags false).setAlAh (s.al &&& 0x0F) s.ah

/-- AAD's second byte is 0AH, another is #UD (R201, D13). -/
def State.aad (s : State) (imm : BitVec 8) : Res State :=
  if imm = 0x0A then .ok ((s.aadFlags (s.ah * 10 + s.al)).setAlAh (s.ah * 10 + s.al) 0) else raise excUD

/-- AAM's second byte is 0AH, another is #UD (R202, D13). -/
def State.aam (s : State) (imm : BitVec 8) : Res State :=
  if imm = 0x0A then .ok ((s.aadFlags (s.al % 10)).setAlAh (s.al % 10) (s.al / 10)) else raise excUD

/-- The flags of DAA and DAS: AF and CF as computed, SF, ZF and PF from AL, OF undefined (R249, R250). -/
def State.dasFlags (s : State) (al : BitVec 8) (af cf : Bool) : State :=
  { s with flags := { s.flags.szp al with af := af, cf := cf } }.undefineFlags [.ofl]

/-- DAA: the low digit, then the high digit of what the first step leaves (R249). -/
def State.daa (s : State) : State :=
  let a := if s.lowAdjust then s.al + 6 else s.al
  let high := decide (0x9F < a.toNat) || s.flags.cf
  let r := if high then a + 0x60 else a
  (s.dasFlags r s.lowAdjust high).setReg .b8 .eax r

/-- DAS: the low digit, then the high digit of what the first step leaves (R250). -/
def State.das (s : State) : State :=
  let a := if s.lowAdjust then s.al - 6 else s.al
  let high := decide (0x9F < a.toNat) || s.flags.cf
  let r := if high then a - 0x60 else a
  (s.dasFlags r s.lowAdjust high).setReg .b8 .eax r

/-- AAA (R200). -/
def execAaa (s : State) : Out := perform .none s fun s => .ok s.aaa

/-- AAS (R203). -/
def execAas (s : State) : Out := perform .none s fun s => .ok s.aas

/-- AAD (R201). -/
def execAad (imm : BitVec 8) (s : State) : Out := perform .none s fun s => s.aad imm

/-- AAM (R202). -/
def execAam (imm : BitVec 8) (s : State) : Out := perform .none s fun s => s.aam imm

/-- DAA (R249). -/
def execDaa (s : State) : Out := perform .none s fun s => .ok s.daa

/-- DAS (R250). -/
def execDas (s : State) : Out := perform .none s fun s => .ok s.das

end Sys2Proof.Machine
end

