-- ==== Sys2Proof/Machine/FlagOps.lean ====
section
/-! DEFINITION. Machine/FlagOps.lean: the instructions that read or write flags directly. -/

namespace Sys2Proof.Machine

/-- CLI and STI need a level at least as privileged as IOPL when PE = 1 (R243, R435, R474). -/
def State.needFlagPrivilege (s : State) : Res Unit :=
  need (!(s.ctrl.cr0.pe && decide (s.flags.iopl < s.cpl))) (excGP 0)

/-- CLI (R243). -/
def State.cli (s : State) : Res State :=
  match s.needFlagPrivilege with
  | .error e => .error e
  | .ok _ => .ok { s with flags := { s.flags with intf := false } }

/-- STI: maskable interrupts wait for one more instruction when IF was 0 (R435, R48). -/
def State.sti (s : State) : Res State :=
  match s.needFlagPrivilege with
  | .error e => .error e
  | .ok _ =>
    .ok { s with
      flags := { s.flags with intf := true }
      seq := if s.flags.intf then s.seq else { s.seq with inhibit := .maskable } }

/-- SAHF: SF, ZF, AF, PF and CF from bits 7, 6, 4, 2 and 0 of AH (R420). -/
def Flags.sahf (f : Flags) (ah : BitVec 8) : Flags :=
  { f with sf := ah.getLsbD 7, zf := ah.getLsbD 6, af := ah.getLsbD 4, pf := ah.getLsbD 2, cf := ah.getLsbD 0 }

/-- CLC (R241). -/
def execClc (s : State) : Out :=
  perform .none s fun s => .ok { s with flags := { s.flags with cf := false } }

/-- STC (R433). -/
def execStc (s : State) : Out :=
  perform .none s fun s => .ok { s with flags := { s.flags with cf := true } }

/-- CMC (R245). -/
def execCmc (s : State) : Out :=
  perform .none s fun s => .ok { s with flags := { s.flags with cf := !s.flags.cf } }

/-- CLD (R242). -/
def execCld (s : State) : Out :=
  perform .none s fun s => .ok { s with flags := { s.flags with df := false } }

/-- STD (R434). -/
def execStd (s : State) : Out :=
  perform .none s fun s => .ok { s with flags := { s.flags with df := true } }

/-- CLI (R243). -/
def execCli (s : State) : Out :=
  perform .none s fun s => s.cli

/-- STI (R435). -/
def execSti (s : State) : Out :=
  perform .none s fun s => s.sti

/-- LAHF: AH is the low byte of the flags, its reserved bits 0, 0 and 1 (R330, R33). -/
def execLahf (s : State) : Out :=
  perform .none s fun s => .ok (s.setReg .b8 .esp (s.flags.image.setWidth 8))

/-- SAHF (R420). -/
def execSahf (s : State) : Out :=
  perform .none s fun s => .ok { s with flags := s.flags.sahf (s.reg .b8 .esp) }

end Sys2Proof.Machine
end

