-- ==== Sys2Proof/Machine/Interrupts.lean ====
section
/-! DEFINITION. Machine/Interrupts.lean: INT n, INT 3, INTO, IRET, BOUND. -/

namespace Sys2Proof.Machine

/-- A software interrupt as an event (R290, R462). -/
def softEvent (v : BitVec 8) : Event := { vec := v, code := none, ext := false, software := true, exception := false }

/-- INT imm8: #GP(0) in V86 mode with IOPL below 3 (R290, R476). -/
def State.intImm (s : State) (v : BitVec 8) : Res State :=
  match need (!(s.v86Mode && decide (s.flags.iopl < 3))) (excGP 0) with
  | .error e => .error e
  | .ok _ => s.enter (softEvent v)

/-- INTO: interrupt 4 if OF = 1 (R290). -/
def State.intOverflow (s : State) : Res State := if s.flags.ofl then s.enter (softEvent 4) else .ok s

/-- Two values of one width that lie side by side in memory, the lower address first: one operand (R94). -/
def State.readPair (s : State) (ea : EA) (n : Nat) : Res (Nat × Nat) :=
  match s.memBytesAt (s.eaSeg ea) (s.eaOff ea) (2 * n) with
  | .error e => .error e
  | .ok bs => .ok (leNat (bs.take n), leNat (bs.drop n))

/-- BOUND: a signed comparison with the two bounds in memory; interrupt 5 outside them (R208). -/
def State.boundTest (s : State) (w : Width) (r : Reg) (rm : RM) : Res State :=
  match needMem rm with
  | .error e => .error e
  | .ok ea =>
    match s.readPair ea w.bytes with
    | .error e => .error e
    | .ok (lower, upper) =>
      if (s.reg w r).slt (BitVec.ofNat _ lower) || (BitVec.ofNat _ upper).slt (s.reg w r) then raise excBR else .ok s

/-- INT 3 (R290). -/
def execInt3 (s : State) : Out :=
  perform .none s fun s => s.enter (softEvent 3)

/-- INT imm8 (R290). -/
def execIntN (imm : BitVec 8) (s : State) : Out :=
  perform .none s fun s => s.intImm imm

/-- INTO (R290). -/
def execInto (s : State) : Out :=
  perform .none s fun s => s.intOverflow

/-- IRET and IRETD (R298 to R302). -/
def execIret (s : State) : Out :=
  perform .none s fun s => s.iret

/-- BOUND r16,m16&16 and r32,m32&32 (R208). -/
def execBound (r : Reg) (rm : RM) (s : State) : Out :=
  perform .none s fun s => s.boundTest s.opSize.width r rm

end Sys2Proof.Machine
end

