-- ==== Sys2Proof/Machine/Io.lean ====
section
/-! DEFINITION. Machine/Io.lean: the I/O space: permission, port accesses, IN and OUT. -/

namespace Sys2Proof.Machine

/-- The mask of the permission bits of an access of `n` bytes (R8). -/
def ioMask (n : Nat) : Nat := 2 ^ n - 1

/-- I-O-Permission (R8). A bitmap that lies beyond the limit of the task state segment denies the access (D7). -/
def State.ioPermission (s : State) (port : BitVec 16) (n : Nat) : Res Bool :=
  if !s.tables.tr.is386 then .ok false
  else
    match s.tssRead .w16 0x66 0 with
    | .error e => .error e
    | .ok ptr =>
      if port.toNat / 8 + ptr.toNat + 1 ≤ s.tables.tr.limit.toNat then
        match s.tssRead .w16 (port.toNat / 8 + ptr.toNat) 0 with
        | .error e => .error e
        | .ok bits => .ok (bits.toNat &&& (ioMask n <<< (port.toNat % 8)) == 0)
      else .ok false

/-- The access needs no permission, or has it, else #GP(0) (R108). -/
def State.needPort (s : State) (port : BitVec 16) (n : Nat) : Res Unit :=
  if s.ctrl.cr0.pe && (s.flags.vm || decide (s.flags.iopl < s.cpl)) then
    match s.ioPermission port n with
    | .error e => .error e
    | .ok b => need b (excGP 0)
  else .ok ()

/-- The access stays within ports 0 to FFFFH; the spec refuses another (R108, D27). -/
def needPortRange (port : BitVec 16) (n : Nat) : Res Unit :=
  if port.toNat + n ≤ 2 ^ 16 then .ok () else .error (.refuse .ioPastEnd)

/-- IoRead of R2: the value is the oracle's, and the event is recorded (D27). -/
def State.portIn (s : State) (port : BitVec 16) (w : Width) : Res (BitVec w.bits × State) :=
  match needPortRange port w.bytes with
  | .error e => .error e
  | .ok _ =>
    let v : BitVec w.bits := (Config.ioRead s.draws port w.bytes).setWidth _
    .ok (v, { s with draws := s.draws + 1, io := s.io ++ [.input port w.bytes (v.setWidth 32)] })

/-- IoWrite of R2: the event is recorded (D27). -/
def State.portOut (s : State) (port : BitVec 16) (w : Width) (v : BitVec w.bits) : Res State :=
  match needPortRange port w.bytes with
  | .error e => .error e
  | .ok _ => .ok { s with io := s.io ++ [.output port w.bytes (v.setWidth 32)] }

/-- IN (R274). -/
def State.inPort (s : State) (w : Width) (port : BitVec 16) : Res State :=
  match s.needPort port w.bytes with
  | .error e => .error e
  | .ok _ =>
    match s.portIn port w with
    | .error e => .error e
    | .ok (v, t) => .ok (t.setReg w .eax v)

/-- OUT (R372). -/
def State.outPort (s : State) (w : Width) (port : BitVec 16) : Res State :=
  match s.needPort port w.bytes with
  | .error e => .error e
  | .ok _ => s.portOut port w (s.reg w .eax)

/-- The port number in DX. -/
def State.dx (s : State) : BitVec 16 := s.reg .w16 .edx

/-- IN AL,imm8 (R274). -/
def execInAlImm8 (imm : BitVec 8) (s : State) : Out := perform .none s fun s => s.inPort .b8 (imm.setWidth 16)

/-- IN AX,imm8 and EAX,imm8 (R274). -/
def execInEaxImm8 (imm : BitVec 8) (s : State) : Out :=
  perform .none s fun s => s.inPort s.opSize.width (imm.setWidth 16)

/-- IN AL,DX (R274). -/
def execInAlDx (s : State) : Out := perform .none s fun s => s.inPort .b8 s.dx

/-- IN AX,DX and EAX,DX (R274). -/
def execInEaxDx (s : State) : Out := perform .none s fun s => s.inPort s.opSize.width s.dx

/-- OUT imm8,AL (R372). -/
def execOutImm8Al (imm : BitVec 8) (s : State) : Out := perform .none s fun s => s.outPort .b8 (imm.setWidth 16)

/-- OUT imm8,AX and imm8,EAX (R372). -/
def execOutImm8Eax (imm : BitVec 8) (s : State) : Out :=
  perform .none s fun s => s.outPort s.opSize.width (imm.setWidth 16)

/-- OUT DX,AL (R372). -/
def execOutDxAl (s : State) : Out := perform .none s fun s => s.outPort .b8 s.dx

/-- OUT DX,AX and DX,EAX (R372). -/
def execOutDxEax (s : State) : Out := perform .none s fun s => s.outPort s.opSize.width s.dx

end Sys2Proof.Machine
end

