-- ==== Sys2Proof/Machine/Move.lean ====
section
/-! DEFINITION. Machine/Move.lean: data movement between registers and memory, segment register moves, conversions. -/

namespace Sys2Proof.Machine

/-- An r/m operand moved into a register. -/
def State.loadReg (s : State) (w : Width) (r : Reg) (rm : RM) : Res State :=
  match s.readRM w rm with
  | .error e => .error e
  | .ok v => .ok (s.setReg w r v)

/-- An r/m operand of one width, extended by `f`, moved into a register of another (R363, R364). -/
def State.loadExt (s : State) (src dst : Width) (r : Reg) (rm : RM) (f : BitVec src.bits → BitVec dst.bits) :
    Res State :=
  match s.readRM src rm with
  | .error e => .error e
  | .ok v => .ok (s.setReg dst r (f v))

/-- The accumulator loaded from a simple offset (R360). -/
def State.loadMoffs (s : State) (w : Width) (off : VImm) : Res State :=
  match s.memRead (s.dataSeg .ds) w off.zext with
  | .error e => .error e
  | .ok v => .ok (s.setReg w .eax v)

/-- The accumulator stored at a simple offset (R360). -/
def State.storeMoffs (s : State) (w : Width) (off : VImm) : Res State :=
  s.memWrite (s.dataSeg .ds) w off.zext (s.reg w .eax)

/-- XCHG with an r/m operand; the write check precedes the read (R442). -/
def State.xchgRM (s : State) (w : Width) (rm : RM) (r : Reg) : Res State :=
  match s.readDest w rm with
  | .error e => .error e
  | .ok a =>
    match s.writeRM w rm (s.reg w r) with
    | .error e => .error e
    | .ok t => .ok (t.setReg w r a)

/-- A word stored into an r/m operand; a register destination with a 32-bit operand size gets a free upper half (R367,
R432, D14). -/
def State.storeWordFree (s : State) (rm : RM) (v : BitVec 16) : Res State :=
  match rm with
  | .reg r =>
    if s.opSize == .s32 then .ok (s.draw.2.setReg .d32 r (s.draw.1.extractLsb' 16 16 ++ v))
    else .ok (s.setReg .w16 r v)
  | .mem ea => s.writeRM .w16 (.mem ea) v

/-- The inhibit state of MOV SS and POP SS (R48, R368). -/
def State.inhibitAfterSs (s : State) (r : SReg) : State :=
  if r == .ss then { s with seq := { s.seq with inhibit := .all } } else s

/-- MOV into a segment register: CS and the codes without a register are #UD (R367, D13). -/
def State.movToSeg (s : State) (code : BitVec 3) (rm : RM) : Res State :=
  match SReg.ofCode code with
  | none => raise excUD
  | some .cs => raise excUD
  | some r =>
    match s.readRM .w16 rm with
    | .error e => .error e
    | .ok v =>
      match s.loadSeg r v with
      | .error e => .error e
      | .ok t => .ok (t.inhibitAfterSs r)

/-- MOV from a segment register (R367). -/
def State.movFromSeg (s : State) (code : BitVec 3) (rm : RM) : Res State :=
  match SReg.ofCode code with
  | none => raise excUD
  | some r => s.storeWordFree rm (s.seg r).sel

/-- LDS, LES, LFS, LGS, LSS: every check before either register changes (R340). -/
def State.loadFar (s : State) (sr : SReg) (r : Reg) (rm : RM) : Res State :=
  match needMem rm with
  | .error e => .error e
  | .ok ea =>
    match s.farPtr ea with
    | .error e => .error e
    | .ok (off, sel) =>
      match s.loadSeg sr sel with
      | .error e => .error e
      | .ok t => .ok (t.setReg s.opSize.width r (off.setWidth _))

/-- XLAT (R443). -/
def State.xlat (s : State) : Res State :=
  match s.memRead (s.dataSeg .ds) .b8
      (addOffset s.addrSize (s.eReg s.addrSize .ebx) ((s.reg .b8 .eax).setWidth 32)) with
  | .error e => .error e
  | .ok v => .ok (s.setReg .b8 .eax v)

/-- CBW and CWDE (R240). -/
def State.cbw (s : State) : State :=
  match s.opSize with
  | .s16 => s.setReg .w16 .eax ((s.reg .b8 .eax).signExtend 16)
  | .s32 => s.setReg .d32 .eax ((s.reg .w16 .eax).signExtend 32)

/-- CWD and CDQ: the sign of the accumulator in every bit of DX or EDX (R248). -/
def State.cwd (s : State) : State :=
  s.setReg s.opSize.width .edx (if (s.reg s.opSize.width .eax).msb then BitVec.allOnes _ else 0)

/-- MOV r/m8,r8 (R360). -/
def execMovRm8R8 (rm : RM) (r : Reg) (s : State) : Out :=
  perform .none s fun s => s.writeRM .b8 rm (s.reg .b8 r)

/-- MOV r/m16,r16 and r/m32,r32 (R360). -/
def execMovRmvRv (rm : RM) (r : Reg) (s : State) : Out :=
  perform .none s fun s => s.writeRM s.opSize.width rm (s.reg s.opSize.width r)

/-- MOV r8,r/m8 (R360). -/
def execMovR8Rm8 (r : Reg) (rm : RM) (s : State) : Out :=
  perform .none s fun s => s.loadReg .b8 r rm

/-- MOV r16,r/m16 and r32,r/m32 (R360). -/
def execMovRvRmv (r : Reg) (rm : RM) (s : State) : Out :=
  perform .none s fun s => s.loadReg s.opSize.width r rm

/-- MOV AL,moffs8 (R360). -/
def execMovAlMoffs (off : VImm) (s : State) : Out :=
  perform .none s fun s => s.loadMoffs .b8 off

/-- MOV AX,moffs16 and EAX,moffs32 (R360). -/
def execMovEaxMoffs (off : VImm) (s : State) : Out :=
  perform .none s fun s => s.loadMoffs s.opSize.width off

/-- MOV moffs8,AL (R360). -/
def execMovMoffsAl (off : VImm) (s : State) : Out :=
  perform .none s fun s => s.storeMoffs .b8 off

/-- MOV moffs16,AX and moffs32,EAX (R360). -/
def execMovMoffsEax (off : VImm) (s : State) : Out :=
  perform .none s fun s => s.storeMoffs s.opSize.width off

/-- MOV reg8,imm8 (R360). -/
def execMovR8Imm8 (r : Reg) (imm : BitVec 8) (s : State) : Out :=
  perform .none s fun s => .ok (s.setReg .b8 r imm)

/-- MOV reg16,imm16 and reg32,imm32 (R360). -/
def execMovRvImmv (r : Reg) (imm : VImm) (s : State) : Out :=
  perform .none s fun s => .ok (s.setReg s.opSize.width r (imm.at s.opSize.width))

/-- MOV r/m8,imm8 (R360). -/
def execMovRm8Imm8 (rm : RM) (imm : BitVec 8) (s : State) : Out :=
  perform .none s fun s => s.writeRM .b8 rm imm

/-- MOV r/m16,imm16 and r/m32,imm32 (R360). -/
def execMovRmvImmv (rm : RM) (imm : VImm) (s : State) : Out :=
  perform .none s fun s => s.writeRM s.opSize.width rm (imm.at s.opSize.width)

/-- MOV r/m16,Sreg (R367). -/
def execMovRmSreg (rm : RM) (code : BitVec 3) (s : State) : Out :=
  perform .none s fun s => s.movFromSeg code rm

/-- MOV Sreg,r/m16 (R367, R368). -/
def execMovSregRm (code : BitVec 3) (rm : RM) (s : State) : Out :=
  perform .none s fun s => s.movToSeg code rm

/-- XCHG r/m8,r8 (R442). -/
def execXchgRm8R8 (rm : RM) (r : Reg) (s : State) : Out :=
  perform (.lockMem rm) s fun s => s.xchgRM .b8 rm r

/-- XCHG r/m16,r16 and r/m32,r32 (R442). -/
def execXchgRmvRv (rm : RM) (r : Reg) (s : State) : Out :=
  perform (.lockMem rm) s fun s => s.xchgRM s.opSize.width rm r

/-- XCHG AX,r16 and EAX,r32 (R442). -/
def execXchgEaxRv (r : Reg) (s : State) : Out :=
  perform .none s fun s => s.xchgRM s.opSize.width (.reg r) .eax

/-- NOP (R369). -/
def execNop (s : State) : Out :=
  perform .none s fun s => .ok s

/-- LEA: the effective address, cut or zero-extended to the operand size; no access is made (R332). -/
def execLea (r : Reg) (rm : RM) (s : State) : Out :=
  perform .none s fun s =>
    match needMem rm with
    | .error e => .error e
    | .ok ea => .ok (s.setReg s.opSize.width r ((s.eaOff ea).setWidth _))

/-- LDS r16,m16:16 and r32,m16:32 (R340). -/
def execLds (r : Reg) (rm : RM) (s : State) : Out :=
  perform .none s fun s => s.loadFar .ds r rm

/-- LES r16,m16:16 and r32,m16:32 (R340). -/
def execLes (r : Reg) (rm : RM) (s : State) : Out :=
  perform .none s fun s => s.loadFar .es r rm

/-- LFS r16,m16:16 and r32,m16:32 (R340). -/
def execLfs (r : Reg) (rm : RM) (s : State) : Out :=
  perform .none s fun s => s.loadFar .fs r rm

/-- LGS r16,m16:16 and r32,m16:32 (R340). -/
def execLgs (r : Reg) (rm : RM) (s : State) : Out :=
  perform .none s fun s => s.loadFar .gs r rm

/-- LSS r16,m16:16 and r32,m16:32 (R340). -/
def execLss (r : Reg) (rm : RM) (s : State) : Out :=
  perform .none s fun s => s.loadFar .ss r rm

/-- MOVSX r16,r/m8 and r32,r/m8 (R363). -/
def execMovsxRm8 (r : Reg) (rm : RM) (s : State) : Out :=
  perform .none s fun s => s.loadExt .b8 s.opSize.width r rm fun v => v.signExtend _

/-- MOVSX r32,r/m16; with a 16-bit operand size the word moves unchanged (R363). -/
def execMovsxRm16 (r : Reg) (rm : RM) (s : State) : Out :=
  perform .none s fun s => s.loadExt .w16 s.opSize.width r rm fun v => v.signExtend _

/-- MOVZX r16,r/m8 and r32,r/m8 (R364). -/
def execMovzxRm8 (r : Reg) (rm : RM) (s : State) : Out :=
  perform .none s fun s => s.loadExt .b8 s.opSize.width r rm fun v => v.setWidth _

/-- MOVZX r32,r/m16; with a 16-bit operand size the word moves unchanged (R364). -/
def execMovzxRm16 (r : Reg) (rm : RM) (s : State) : Out :=
  perform .none s fun s => s.loadExt .w16 s.opSize.width r rm fun v => v.setWidth _

/-- XLAT (R443). -/
def execXlat (s : State) : Out :=
  perform .none s fun s => s.xlat

/-- CBW and CWDE (R240). -/
def execCbw (s : State) : Out :=
  perform .none s fun s => .ok s.cbw

/-- CWD and CDQ (R248). -/
def execCwd (s : State) : Out :=
  perform .none s fun s => .ok s.cwd

end Sys2Proof.Machine
end

