-- ==== Sys2Proof/Machine/MulDiv.lean ====
section
/-! DEFINITION. Machine/MulDiv.lean: MUL, IMUL, DIV, IDIV. -/

namespace Sys2Proof.Machine

/-- Stores a double-width product: AX, DX:AX or EDX:EAX (R273, R365). -/
def State.setProduct (s : State) (w : Width) (p : Nat) : State :=
  match w with
  | .b8 => s.setReg .w16 .eax (BitVec.ofNat 16 p)
  | .w16 => (s.setReg .w16 .eax (BitVec.ofNat 16 p)).setReg .w16 .edx (BitVec.ofNat 16 (p / 2 ^ 16))
  | .d32 => (s.setReg .d32 .eax (BitVec.ofNat 32 p)).setReg .d32 .edx (BitVec.ofNat 32 (p / 2 ^ 32))

/-- CF and OF tell whether the product overflows its low half; SF, ZF, AF and PF are undefined (R273, R365). -/
def State.mulFlags (s : State) (big : Bool) : State :=
  { s with flags := { s.flags with cf := big, ofl := big } }.undefineFlags [.pf, .af, .zf, .sf]

/-- MUL: the unsigned product of the accumulator (R365). -/
def State.mulRM (s : State) (w : Width) (rm : RM) : Res State :=
  match s.readRM w rm with
  | .error e => .error e
  | .ok b =>
    .ok ((s.mulFlags (decide (2 ^ w.bits ≤ (s.reg w .eax).toNat * b.toNat))).setProduct w
      ((s.reg w .eax).toNat * b.toNat))

/-- A signed value fits in `n` bits. -/
def fitsSigned (n : Nat) (v : Int) : Bool := decide (-(2 ^ (n - 1) : Int) ≤ v) && decide (v < (2 ^ (n - 1) : Int))

/-- IMUL with the accumulator: the signed double-width product (R273). -/
def State.imulAcc (s : State) (w : Width) (rm : RM) : Res State :=
  match s.readRM w rm with
  | .error e => .error e
  | .ok b =>
    let p := (s.reg w .eax).toInt * b.toInt
    .ok ((s.mulFlags (!fitsSigned w.bits p)).setProduct w (BitVec.ofInt (2 * w.bits) p).toNat)

/-- IMUL into a register: the low half of the signed product of `a` and `b` (R273). -/
def State.imulReg (s : State) (w : Width) (r : Reg) (a b : BitVec w.bits) : State :=
  (s.mulFlags (!fitsSigned w.bits (a.toInt * b.toInt))).setReg w r (BitVec.ofInt _ (a.toInt * b.toInt))

/-- IMUL of an r/m operand and `b` into a register (R273). -/
def State.imulRegRM (s : State) (w : Width) (r : Reg) (rm : RM) (b : BitVec w.bits) : Res State :=
  match s.readRM w rm with
  | .error e => .error e
  | .ok a => .ok (s.imulReg w r a b)

/-- The dividend: AX, DX:AX or EDX:EAX (R252, R272). -/
def State.dividend (s : State) (w : Width) : Nat :=
  match w with
  | .b8 => (s.reg .w16 .eax).toNat
  | .w16 => (s.reg .w16 .edx).toNat * 2 ^ 16 + (s.reg .w16 .eax).toNat
  | .d32 => (s.reg .d32 .edx).toNat * 2 ^ 32 + (s.reg .d32 .eax).toNat

/-- Stores quotient and remainder: AL and AH, AX and DX, or EAX and EDX (R252, R272). -/
def State.setQuotRem (s : State) (w : Width) (q r : BitVec w.bits) : State :=
  match w, q, r with
  | .b8, q, r => (s.setReg .b8 .eax q).setReg .b8 .esp r
  | .w16, q, r => (s.setReg .w16 .eax q).setReg .w16 .edx r
  | .d32, q, r => (s.setReg .d32 .eax q).setReg .d32 .edx r

/-- DIV and IDIV leave the six status flags undefined (R252, R272). -/
def State.divFlags (s : State) : State := s.undefineFlags [.cf, .pf, .af, .zf, .sf, .ofl]

/-- DIV: Interrupt 0 for a zero divisor or a quotient that does not fit (R252). -/
def State.divRM (s : State) (w : Width) (rm : RM) : Res State :=
  match s.readRM w rm with
  | .error e => .error e
  | .ok d =>
    if d.toNat = 0 ∨ 2 ^ w.bits ≤ s.dividend w / d.toNat then raise excDE
    else .ok (s.divFlags.setQuotRem w (BitVec.ofNat _ (s.dividend w / d.toNat)) (BitVec.ofNat _ (s.dividend w % d.toNat)))

/-- The dividend as a signed number (R272). -/
def State.signedDividend (s : State) (w : Width) : Int := (BitVec.ofNat (2 * w.bits) (s.dividend w)).toInt

/-- IDIV: the quotient truncated toward 0; Interrupt 0 for a zero divisor or a quotient that does not fit (R272). -/
def State.idivRM (s : State) (w : Width) (rm : RM) : Res State :=
  match s.readRM w rm with
  | .error e => .error e
  | .ok d =>
    if d.toInt = 0 ∨ fitsSigned w.bits ((s.signedDividend w).tdiv d.toInt) = false then raise excDE
    else
      .ok (s.divFlags.setQuotRem w (BitVec.ofInt _ ((s.signedDividend w).tdiv d.toInt))
        (BitVec.ofInt _ ((s.signedDividend w).tmod d.toInt)))

/-- MUL AL,r/m8 (R365). -/
def execMulRm8 (rm : RM) (s : State) : Out := perform .none s fun s => s.mulRM .b8 rm

/-- MUL AX,r/m16 and EAX,r/m32 (R365). -/
def execMulRmv (rm : RM) (s : State) : Out := perform .none s fun s => s.mulRM s.opSize.width rm

/-- IMUL r/m8 (R273). -/
def execImulRm8 (rm : RM) (s : State) : Out := perform .none s fun s => s.imulAcc .b8 rm

/-- IMUL r/m16 and r/m32 (R273). -/
def execImulRmv (rm : RM) (s : State) : Out := perform .none s fun s => s.imulAcc s.opSize.width rm

/-- IMUL r16,r/m16 and r32,r/m32 (R273). -/
def execImulRvRmv (r : Reg) (rm : RM) (s : State) : Out :=
  perform .none s fun s => s.imulRegRM s.opSize.width r rm (s.reg s.opSize.width r)

/-- IMUL r16,r/m16,imm16 and r32,r/m32,imm32 (R273). -/
def execImulRvRmvImmv (r : Reg) (rm : RM) (imm : VImm) (s : State) : Out :=
  perform .none s fun s => s.imulRegRM s.opSize.width r rm (imm.at s.opSize.width)

/-- IMUL r16,r/m16,imm8 and r32,r/m32,imm8, the immediate sign-extended (R273). -/
def execImulRvRmvImm8 (r : Reg) (rm : RM) (imm : BitVec 8) (s : State) : Out :=
  perform .none s fun s => s.imulRegRM s.opSize.width r rm (immSext s.opSize.width imm)

/-- DIV AL,r/m8 (R252). -/
def execDivRm8 (rm : RM) (s : State) : Out := perform .none s fun s => s.divRM .b8 rm

/-- DIV AX,r/m16 and EAX,r/m32 (R252). -/
def execDivRmv (rm : RM) (s : State) : Out := perform .none s fun s => s.divRM s.opSize.width rm

/-- IDIV r/m8 (R272). -/
def execIdivRm8 (rm : RM) (s : State) : Out := perform .none s fun s => s.idivRM .b8 rm

/-- IDIV AX,r/m16 and EAX,r/m32 (R272). -/
def execIdivRmv (rm : RM) (s : State) : Out := perform .none s fun s => s.idivRM s.opSize.width rm

end Sys2Proof.Machine
end

