-- ==== Sys2Proof/Machine/Prefixes.lean ====
section
/-! DEFINITION. Machine/Prefixes.lean: the prefix bytes, each a row of the opcode table (R141). -/

namespace Sys2Proof.Machine

/-- The state with other prefixes. -/
def State.withPfx (s : State) (p : Prefixes) : State := { s with seq := { s.seq with pfx := p } }

/-- A prefix of a kind: the first sets it, an exact repeat changes nothing, another of the kind is refused (D16). -/
def joinPrefix {α : Type} [DecidableEq α] (old : Option α) (x : α) : Option (Option α) :=
  match old with
  | none => some (some x)
  | some y => if x = y then some (some x) else none

/-- A segment override (R141). -/
def State.segPrefix (s : State) (r : SReg) : Out :=
  match joinPrefix s.seq.pfx.seg r with
  | some x => .next (s.withPfx { s.seq.pfx with seg := x })
  | none => .refused .conflictingPrefix

/-- LOCK, REPNE and REP (R141). -/
def State.groupPrefix (s : State) (g : GroupPrefix) : Out :=
  match joinPrefix s.seq.pfx.group g with
  | some x => .next (s.withPfx { s.seq.pfx with group := x })
  | none => .refused .conflictingPrefix

/-- The ES segment override (R141). -/
def execSegEs (s : State) : Out := s.segPrefix .es

/-- The CS segment override (R141). -/
def execSegCs (s : State) : Out := s.segPrefix .cs

/-- The SS segment override (R141). -/
def execSegSs (s : State) : Out := s.segPrefix .ss

/-- The DS segment override (R141). -/
def execSegDs (s : State) : Out := s.segPrefix .ds

/-- The FS segment override (R141). -/
def execSegFs (s : State) : Out := s.segPrefix .fs

/-- The GS segment override (R141). -/
def execSegGs (s : State) : Out := s.segPrefix .gs

/-- The operand-size prefix (R141, R142). -/
def execOpsize (s : State) : Out := .next (s.withPfx { s.seq.pfx with opsize := true })

/-- The address-size prefix (R141, R142). -/
def execAddrsize (s : State) : Out := .next (s.withPfx { s.seq.pfx with addrsize := true })

/-- LOCK (R343): which instructions take it is checked by each of them. -/
def execLock (s : State) : Out := s.groupPrefix .lock

/-- REPNE (R408). -/
def execRepne (s : State) : Out := s.groupPrefix .repne

/-- REP and REPE (R408). -/
def execRep (s : State) : Out := s.groupPrefix .rep

end Sys2Proof.Machine
end

