-- ==== Sys2Proof/Machine/Shift.lean ====
section
/-! DEFINITION. Machine/Shift.lean: ROL, ROR, RCL, RCR, SHL, SHR, SAR, SHLD, SHRD. -/

namespace Sys2Proof.Machine

/-- The seven shifts and rotates (R396, R421). -/
inductive ShiftOp where
  | rol | ror | rcl | rcr | shl | shr | sar
deriving DecidableEq, Repr

/-- One pass of an operation's loop on the operand and CF (R397 to R400, R421). -/
def ShiftOp.once {n : Nat} (op : ShiftOp) (v : BitVec n) (cf : Bool) : BitVec n × Bool :=
  match op with
  | .rol => (v <<< 1 ||| BitVec.ofNat n v.msb.toNat, v.msb)
  | .ror => (v >>> 1 ||| BitVec.ofNat n (v.getLsbD 0).toNat <<< (n - 1), v.getLsbD 0)
  | .rcl => (v <<< 1 ||| BitVec.ofNat n cf.toNat, v.msb)
  | .rcr => (v >>> 1 ||| BitVec.ofNat n cf.toNat <<< (n - 1), v.getLsbD 0)
  | .shl => (v <<< 1, v.msb)
  | .shr => (v >>> 1, v.getLsbD 0)
  | .sar => (v.sshiftRight 1, v.getLsbD 0)

/-- The loop, run the number of times of the masked count. -/
def ShiftOp.loop {n : Nat} (op : ShiftOp) : Nat → BitVec n → Bool → BitVec n × Bool
  | 0, v, cf => (v, cf)
  | k + 1, v, cf => op.loop k (op.once v cf).1 (op.once v cf).2

/-- OF after a single shift or rotate: `a` is the operand, `r` the result, `cf` the new CF (R396, R421). -/
def ShiftOp.singleOf {n : Nat} (op : ShiftOp) (a r : BitVec n) (cf : Bool) : Bool :=
  match op with
  | .rol => r.msb ^^ cf
  | .rcl => r.msb ^^ cf
  | .shl => r.msb ^^ cf
  | .ror => r.msb ^^ r.getLsbD (n - 2)
  | .rcr => r.msb ^^ r.getLsbD (n - 2)
  | .shr => a.msb
  | .sar => false

/-- The operation is a shift: it sets SF, ZF and PF from the result, and AF is undefined (R421). -/
def ShiftOp.isShift : ShiftOp → Bool
  | .shl => true | .shr => true | .sar => true
  | .rol => false | .ror => false | .rcl => false | .rcr => false

/-- The flags after a shift or rotate by a masked count other than 0 (R396, R421). -/
def State.shiftFlags {n : Nat} (s : State) (op : ShiftOp) (count : Nat) (a r : BitVec n) (cf : Bool) : State :=
  let f := if op.isShift then s.flags.szp r else s.flags
  let undef : List StatusFlag :=
    (if op.isShift then [.af] else []) ++ (if count = 1 then [] else [.ofl])
  let f' := if count = 1 then { f with cf := cf, ofl := op.singleOf a r cf } else { f with cf := cf }
  if undef.isEmpty then { s with flags := f' } else { s with flags := f' }.undefineFlags undef

/-- A shift or rotate of an r/m operand. With a masked count of 0 the operand is still read and write-checked, and only
OF is undefined (R396, R421, D33). -/
def State.shiftRM (s : State) (op : ShiftOp) (w : Width) (rm : RM) (count : Nat) : Res State :=
  if count = 0 then
    match s.readDest w rm with
    | .error e => .error e
    | .ok _ => .ok (s.undefineFlags [.ofl])
  else
    s.updateRM w rm fun a =>
      ((op.loop count a s.flags.cf).1,
       s.shiftFlags op count a (op.loop count a s.flags.cf).1 (op.loop count a s.flags.cf).2)

/-- The count of a shift or rotate, masked to five bits (R396, R421). -/
def State.shiftCount (s : State) : Count → Nat
  | .imm n => n.toNat % 32
  | .one => 1
  | .cl => (s.reg .b8 .ecx).toNat % 32

/-- SHLD's result for a count from 1 to the width less 1 (R429). -/
def shldResult {n : Nat} (a b : BitVec n) (k : Nat) : BitVec n := a <<< k ||| b >>> (n - k)

/-- SHRD's result for a count from 1 to the width less 1 (R430). -/
def shrdResult {n : Nat} (a b : BitVec n) (k : Nat) : BitVec n := a >>> k ||| b <<< (n - k)

/-- The flags of SHLD and SHRD (R429, R430). -/
def State.doubleFlags {n : Nat} (s : State) (r : BitVec n) (cf : Bool) : State :=
  { s with flags := { s.flags.szp r with cf := cf } }.undefineFlags [.af, .ofl]

/-- SHLD and SHRD: `left` selects which. A count of 0 changes nothing, a count of the width or more leaves the
destination and the six flags undefined (R429, R430, D14, D33). -/
def State.doubleShift (s : State) (left : Bool) (w : Width) (rm : RM) (r : Reg) (k : Nat) : Res State :=
  if k = 0 then
    match s.readDest w rm with
    | .error e => .error e
    | .ok _ => .ok s
  else if w.bits ≤ k then
    s.updateRM w rm fun _ => (s.draw.1.setWidth _, s.draw.2.undefineFlags [.cf, .pf, .af, .zf, .sf, .ofl])
  else if left then
    s.updateRM w rm fun a =>
      (shldResult a (s.reg w r) k, s.doubleFlags (shldResult a (s.reg w r) k) (a.getLsbD (w.bits - k)))
  else
    s.updateRM w rm fun a =>
      (shrdResult a (s.reg w r) k, s.doubleFlags (shrdResult a (s.reg w r) k) (a.getLsbD (k - 1)))

/-- ROL r/m8 by a count (R397). -/
def execRolRm8 (rm : RM) (count : Count) (s : State) : Out :=
  perform .none s fun s => s.shiftRM .rol .b8 rm (s.shiftCount count)

/-- ROL r/m16 and r/m32 by a count (R397). -/
def execRolRmv (rm : RM) (count : Count) (s : State) : Out :=
  perform .none s fun s => s.shiftRM .rol s.opSize.width rm (s.shiftCount count)

/-- ROR r/m8 by a count (R398). -/
def execRorRm8 (rm : RM) (count : Count) (s : State) : Out :=
  perform .none s fun s => s.shiftRM .ror .b8 rm (s.shiftCount count)

/-- ROR r/m16 and r/m32 by a count (R398). -/
def execRorRmv (rm : RM) (count : Count) (s : State) : Out :=
  perform .none s fun s => s.shiftRM .ror s.opSize.width rm (s.shiftCount count)

/-- RCL r/m8 by a count (R399). -/
def execRclRm8 (rm : RM) (count : Count) (s : State) : Out :=
  perform .none s fun s => s.shiftRM .rcl .b8 rm (s.shiftCount count)

/-- RCL r/m16 and r/m32 by a count (R399). -/
def execRclRmv (rm : RM) (count : Count) (s : State) : Out :=
  perform .none s fun s => s.shiftRM .rcl s.opSize.width rm (s.shiftCount count)

/-- RCR r/m8 by a count (R400). -/
def execRcrRm8 (rm : RM) (count : Count) (s : State) : Out :=
  perform .none s fun s => s.shiftRM .rcr .b8 rm (s.shiftCount count)

/-- RCR r/m16 and r/m32 by a count (R400). -/
def execRcrRmv (rm : RM) (count : Count) (s : State) : Out :=
  perform .none s fun s => s.shiftRM .rcr s.opSize.width rm (s.shiftCount count)

/-- SHL r/m8 by a count (R422). -/
def execShlRm8 (rm : RM) (count : Count) (s : State) : Out :=
  perform .none s fun s => s.shiftRM .shl .b8 rm (s.shiftCount count)

/-- SHL r/m16 and r/m32 by a count (R422). -/
def execShlRmv (rm : RM) (count : Count) (s : State) : Out :=
  perform .none s fun s => s.shiftRM .shl s.opSize.width rm (s.shiftCount count)

/-- SHR r/m8 by a count (R424). -/
def execShrRm8 (rm : RM) (count : Count) (s : State) : Out :=
  perform .none s fun s => s.shiftRM .shr .b8 rm (s.shiftCount count)

/-- SHR r/m16 and r/m32 by a count (R424). -/
def execShrRmv (rm : RM) (count : Count) (s : State) : Out :=
  perform .none s fun s => s.shiftRM .shr s.opSize.width rm (s.shiftCount count)

/-- SAR r/m8 by a count (R423). -/
def execSarRm8 (rm : RM) (count : Count) (s : State) : Out :=
  perform .none s fun s => s.shiftRM .sar .b8 rm (s.shiftCount count)

/-- SAR r/m16 and r/m32 by a count (R423). -/
def execSarRmv (rm : RM) (count : Count) (s : State) : Out :=
  perform .none s fun s => s.shiftRM .sar s.opSize.width rm (s.shiftCount count)

/-- SHLD r/m16,r16,imm8 and r/m32,r32,imm8 (R429). -/
def execShldImm8 (rm : RM) (r : Reg) (imm : BitVec 8) (s : State) : Out :=
  perform .none s fun s => s.doubleShift true s.opSize.width rm r (imm.toNat % 32)

/-- SHLD r/m16,r16,CL and r/m32,r32,CL (R429). -/
def execShldCl (rm : RM) (r : Reg) (s : State) : Out :=
  perform .none s fun s => s.doubleShift true s.opSize.width rm r (s.shiftCount .cl)

/-- SHRD r/m16,r16,imm8 and r/m32,r32,imm8 (R430). -/
def execShrdImm8 (rm : RM) (r : Reg) (imm : BitVec 8) (s : State) : Out :=
  perform .none s fun s => s.doubleShift false s.opSize.width rm r (imm.toNat % 32)

/-- SHRD r/m16,r16,CL and r/m32,r32,CL (R430). -/
def execShrdCl (rm : RM) (r : Reg) (s : State) : Out :=
  perform .none s fun s => s.doubleShift false s.opSize.width rm r (s.shiftCount .cl)

end Sys2Proof.Machine
end

