-- ==== Sys2Proof/Machine/Stack.lean ====
section
/-! DEFINITION. Machine/Stack.lean: PUSH, POP, PUSHA, POPA, PUSHF, POPF, ENTER, LEAVE. -/

namespace Sys2Proof.Machine

/-- PUSH of an r/m operand: the source is read with the old stack pointer (R393). -/
def State.pushRM (s : State) (rm : RM) : Res State :=
  match s.readRM s.opSize.width rm with
  | .error e => .error e
  | .ok v => s.pushOrShutdown s.opSize (v.setWidth 32)

/-- PUSH of a segment register; a doubleword's upper half is a free value (R393, D14). -/
def State.pushSeg (s : State) (r : SReg) : Res State :=
  (s.padWord s.opSize (s.seg r).sel).2.pushOrShutdown s.opSize (s.padWord s.opSize (s.seg r).sel).1

/-- POP into an r/m operand: a memory operand based on ESP uses the incremented ESP (R390). -/
def State.popRM (s : State) (rm : RM) : Res State :=
  match s.pop s.opSize with
  | .error e => .error e
  | .ok (v, t) => t.writeRM s.opSize.width rm (v.setWidth _)

/-- POP into a segment register (R390). -/
def State.popSeg (s : State) (r : SReg) : Res State :=
  match s.pop s.opSize with
  | .error e => .error e
  | .ok (v, t) =>
    match t.loadSeg r (v.setWidth 16) with
    | .error e => .error e
    | .ok u => .ok (u.inhibitAfterSs r)

/-- The items that PUSHA writes all lie within the stack segment, and none straddles the top of a 64K stack (R394). Each is
checked at its own offset, so that the range may wrap between two items: DEDUCED (log 60, unsafe). -/
def State.pushAllRoom (s : State) : Bool :=
  [1, 2, 3, 4, 5, 6, 7, 8].all fun k =>
    !s.pushWraps s.opSize k && s.accessOk .ss (s.pushOffset (k * s.opSize.bytes)) s.opSize.bytes true

/-- PUSHA and PUSHAD: the whole range is checked first. Outside Protected Mode SP = 1, 3 or 5 shuts the machine down,
another lack of space, SP = 7 to 15 among it, is Interrupt 13 (R394). -/
def State.pushAll (s : State) : Res State :=
  if !s.protectedMode && [1, 3, 5].contains (s.reg .w16 .esp) then .error .shutdown
  else if s.pushAllRoom then
    s.pushList s.opSize
      [s.gpr.eax, s.gpr.ecx, s.gpr.edx, s.gpr.ebx, s.gpr.esp, s.gpr.ebp, s.gpr.esi, s.gpr.edi]
  else raise (s.accessExc .ss)

/-- The items that POPA reads all lie within the stack segment (R391). Each is checked at its own offset, so that the range
may wrap between two items: DEDUCED (log 60, unsafe). -/
def State.popAllRoom (s : State) : Bool :=
  [0, 1, 2, 3, 4, 5, 6, 7].all fun k =>
    s.accessOk .ss (addOffset s.stackSize (s.eReg s.stackSize .esp) (BitVec.ofNat 32 (k * s.opSize.bytes)))
      s.opSize.bytes false

/-- Pops into registers in order; no register is named for an item that is thrown away. -/
def State.popList (s : State) (size : Size) : List (Option Reg) → Res State
  | [] => .ok s
  | r :: l =>
    match s.pop size with
    | .error e => .error e
    | .ok (v, t) =>
      match r with
      | none => t.popList size l
      | some r => (t.setEReg size r v).popList size l

/-- POPA and POPAD: the whole range is checked first; the SP item is thrown away (R391). -/
def State.popAll (s : State) : Res State :=
  if s.popAllRoom then
    s.popList s.opSize
      [some .edi, some .esi, some .ebp, none, some .ebx, some .edx, some .ecx, some .eax]
  else raise (s.accessExc .ss)

/-- #GP(0) in V86 mode with IOPL below 3 (R476). -/
def State.needIopl (s : State) : Res Unit := need (!(s.v86Mode && decide (s.flags.iopl < 3))) (excGP 0)

/-- PUSHF and PUSHFD: the doubleword image shows VM and RF as 0 (R395). -/
def State.pushFlags (s : State) : Res State :=
  match s.needIopl with
  | .error e => .error e
  | .ok _ => s.pushOrShutdown s.opSize { s.flags with vm := false, rf := false }.image

/-- POPF and POPFD (R392). -/
def State.popFlags (s : State) : Res State :=
  match s.needIopl with
  | .error e => .error e
  | .ok _ =>
    match s.pop s.opSize with
    | .error e => .error e
    | .ok (v, t) => .ok { t with flags := t.flags.loadPopf s.cpl v }

/-- ENTER's loop: the outer frame pointers copied one by one (R270). -/
def State.enterCopy (size : Size) : Nat → State → Res State
  | 0, s => .ok s
  | n + 1, s =>
    let t := s.setEReg size .ebp (s.eReg size .ebp - BitVec.ofNat 32 size.bytes)
    match t.memRead .ss size.width (t.eReg size .ebp) with
    | .error e => .error e
    | .ok v =>
      match t.push size (v.setWidth 32) with
      | .error e => .error e
      | .ok u => State.enterCopy size n u

/-- ENTER after the old frame pointer is pushed: the display of outer frames and the new frame pointer (R270). -/
def State.enterDisplay (s : State) (size : Size) (frame : BitVec 32) (level : Nat) : Res State :=
  if level = 0 then .ok s
  else
    match State.enterCopy size (level - 1) s with
    | .error e => .error e
    | .ok t => t.push size frame

/-- The stack pointer after ENTER: below its items, one more than the level, and the local variables (R270). -/
def State.enterTop (s : State) (n : BitVec 16) (level : Nat) : BitVec 32 :=
  truncSize s.stackSize (s.pushOffset ((level + 1) * s.opSize.bytes) - n.setWidth 32)

/-- ENTER's whole limit check, before anything is pushed (R270, R471): every item at its own offset (DEDUCED, log 60), and in
Protected Mode the stack pointer it ends with (DEDUCED, log 27). -/
def State.enterCheck (s : State) (n : BitVec 16) (level : Nat) : Res Unit :=
  match s.pushChecks s.opSize (level + 1) with
  | .error e => .error e
  | .ok _ => need (!s.protectedMode || s.segs.ss.inLimit (s.enterTop n level).toNat 1) (excSS 0)

/-- ENTER once its limit check has passed (R270). -/
def State.enterPush (s : State) (n : BitVec 16) (level : Nat) : Res State :=
  match s.push s.opSize s.gpr.ebp with
  | .error e => .error e
  | .ok t =>
    match t.enterDisplay s.opSize (t.eReg t.stackSize .esp) level with
    | .error e => .error e
    | .ok u =>
      .ok ((u.setEReg s.opSize .ebp (t.eReg t.stackSize .esp)).setEReg s.stackSize .esp (s.enterTop n level))

/-- ENTER (R270): the level counts modulo 32. -/
def State.enterFrame (s : State) (n : BitVec 16) (level : BitVec 8) : Res State :=
  match s.enterCheck n (level.toNat % 32) with
  | .error e => .error e
  | .ok _ => s.enterPush n (level.toNat % 32)

/-- LEAVE: the stack pointer by StackAddrSize, the frame pointer by OperandSize (R333). -/
def State.leaveFrame (s : State) : Res State :=
  match (s.setEReg s.stackSize .esp (s.eReg s.stackSize .ebp)).pop s.opSize with
  | .error e => .error e
  | .ok (v, t) => .ok (t.setEReg s.opSize .ebp v)

/-- PUSH ES (R393). -/
def execPushEs (s : State) : Out :=
  perform .none s fun s => s.pushSeg .es

/-- PUSH CS (R393). -/
def execPushCs (s : State) : Out :=
  perform .none s fun s => s.pushSeg .cs

/-- PUSH SS (R393). -/
def execPushSs (s : State) : Out :=
  perform .none s fun s => s.pushSeg .ss

/-- PUSH DS (R393). -/
def execPushDs (s : State) : Out :=
  perform .none s fun s => s.pushSeg .ds

/-- PUSH FS (R393). -/
def execPushFs (s : State) : Out :=
  perform .none s fun s => s.pushSeg .fs

/-- PUSH GS (R393). -/
def execPushGs (s : State) : Out :=
  perform .none s fun s => s.pushSeg .gs

/-- POP ES (R390). -/
def execPopEs (s : State) : Out :=
  perform .none s fun s => s.popSeg .es

/-- POP SS (R390). -/
def execPopSs (s : State) : Out :=
  perform .none s fun s => s.popSeg .ss

/-- POP DS (R390). -/
def execPopDs (s : State) : Out :=
  perform .none s fun s => s.popSeg .ds

/-- POP FS (R390). -/
def execPopFs (s : State) : Out :=
  perform .none s fun s => s.popSeg .fs

/-- POP GS (R390). -/
def execPopGs (s : State) : Out :=
  perform .none s fun s => s.popSeg .gs

/-- PUSH r16 and r32 (R393). -/
def execPushRv (r : Reg) (s : State) : Out :=
  perform .none s fun s => s.pushRM (.reg r)

/-- PUSH m16 and m32 (R393). -/
def execPushRmv (rm : RM) (s : State) : Out :=
  perform .none s fun s => s.pushRM rm

/-- PUSH imm16 and imm32 (R393). -/
def execPushImmv (imm : VImm) (s : State) : Out :=
  perform .none s fun s => s.pushOrShutdown s.opSize imm.zext

/-- PUSH imm8, sign-extended (R393). -/
def execPushImm8 (imm : BitVec 8) (s : State) : Out :=
  perform .none s fun s => s.pushOrShutdown s.opSize (imm.signExtend 32)

/-- POP r16 and r32 (R390). -/
def execPopRv (r : Reg) (s : State) : Out :=
  perform .none s fun s => s.popRM (.reg r)

/-- POP m16 and m32 (R390). -/
def execPopRmv (rm : RM) (s : State) : Out :=
  perform .none s fun s => s.popRM rm

/-- PUSHA and PUSHAD (R394). -/
def execPusha (s : State) : Out :=
  perform .none s fun s => s.pushAll

/-- POPA and POPAD (R391). -/
def execPopa (s : State) : Out :=
  perform .none s fun s => s.popAll

/-- PUSHF and PUSHFD (R395). -/
def execPushf (s : State) : Out :=
  perform .none s fun s => s.pushFlags

/-- POPF and POPFD (R392). -/
def execPopf (s : State) : Out :=
  perform .none s fun s => s.popFlags

/-- ENTER imm16,imm8 (R270). -/
def execEnter (size : BitVec 16) (level : BitVec 8) (s : State) : Out :=
  perform .none s fun s => s.enterFrame size level

/-- LEAVE (R333). -/
def execLeave (s : State) : Out :=
  perform .none s fun s => s.leaveFrame

end Sys2Proof.Machine
end

