-- ==== Sys2Proof/Machine/Strings.lean ====
section
/-! DEFINITION. Machine/Strings.lean: the string instructions and their repetition. -/

namespace Sys2Proof.Machine

/-- An index register after one element: up or down by the element's bytes as DF says (R114). -/
def State.moveIndex (s : State) (r : Reg) (n : Nat) : State :=
  s.setEReg s.addrSize r
    (if s.flags.df then s.eReg s.addrSize r - BitVec.ofNat 32 n else s.eReg s.addrSize r + BitVec.ofNat 32 n)

/-- The offset in an index register (R114). -/
def State.index (s : State) (r : Reg) : BitVec 32 := s.eReg s.addrSize r

/-- One MOVS element (R362). -/
def State.movsOne (w : Width) (s : State) : Res State :=
  match s.memRead (s.dataSeg .ds) w (s.index .esi) with
  | .error e => .error e
  | .ok v =>
    match s.memWrite .es w (s.index .edi) v with
    | .error e => .error e
    | .ok t => .ok ((t.moveIndex .esi w.bytes).moveIndex .edi w.bytes)

/-- One CMPS element: source less destination (R247). -/
def State.cmpsOne (w : Width) (s : State) : Res State :=
  match s.memRead (s.dataSeg .ds) w (s.index .esi) with
  | .error e => .error e
  | .ok a =>
    match s.memRead .es w (s.index .edi) with
    | .error e => .error e
    | .ok b => .ok (((s.aluFlags .cmp a b).moveIndex .esi w.bytes).moveIndex .edi w.bytes)

/-- One SCAS element: accumulator less destination (R426). -/
def State.scasOne (w : Width) (s : State) : Res State :=
  match s.memRead .es w (s.index .edi) with
  | .error e => .error e
  | .ok b => .ok ((s.aluFlags .cmp (s.reg w .eax) b).moveIndex .edi w.bytes)

/-- One LODS element (R344). -/
def State.lodsOne (w : Width) (s : State) : Res State :=
  match s.memRead (s.dataSeg .ds) w (s.index .esi) with
  | .error e => .error e
  | .ok v => .ok ((s.setReg w .eax v).moveIndex .esi w.bytes)

/-- One STOS element (R436). -/
def State.stosOne (w : Width) (s : State) : Res State :=
  match s.memWrite .es w (s.index .edi) (s.reg w .eax) with
  | .error e => .error e
  | .ok t => .ok (t.moveIndex .edi w.bytes)

/-- One INS element: the permission, then the destination check, then the port read (R276, D11). -/
def State.insOne (w : Width) (s : State) : Res State :=
  match s.needPort s.dx w.bytes with
  | .error e => .error e
  | .ok _ =>
    match s.writeCheck .es (s.index .edi) w.bytes with
    | .error e => .error e
    | .ok _ =>
      match s.portIn s.dx w with
      | .error e => .error e
      | .ok (v, t) =>
        match t.memWrite .es w (t.index .edi) v with
        | .error e => .error e
        | .ok u => .ok (u.moveIndex .edi w.bytes)

/-- One OUTS element: the permission and the memory read precede the port write (R373, D11). -/
def State.outsOne (w : Width) (s : State) : Res State :=
  match s.needPort s.dx w.bytes with
  | .error e => .error e
  | .ok _ =>
    match s.memRead (s.dataSeg .ds) w (s.index .esi) with
    | .error e => .error e
    | .ok v =>
      match s.portOut s.dx w v with
      | .error e => .error e
      | .ok t => .ok (t.moveIndex .esi w.bytes)

/-- The repetition goes on after an iteration that leaves state `t`: the count is not used up and, for a comparing
instruction, ZF agrees with the prefix (R408). -/
def repeatsOn (p : GroupPrefix) (compares : Bool) (count : BitVec 32) (t : State) : Bool :=
  count != 0 && (!compares || (if p == .repne then !t.flags.zf else t.flags.zf))

/-- The state between two iterations: EIP addresses the first prefix, so that the next step goes on with the loop, the
inhibit state of the instruction stays in force and its single-step trap is still to come (R408, R48, R477). -/
def State.again (s : State) : State :=
  { s with eip := s.seq.startEip, seq := { s.seq with inhibit := s.seq.held, stepTrap := false } }

/-- A string instruction with its prefix: without one, one element. With one, nothing when the count is 0, else one
iteration, after which the loop goes on or ends (R408). -/
def State.repeated (s : State) (compares : Bool) (one : State → Res State) : Res State :=
  match s.seq.pfx.group with
  | none => one s
  | some p =>
    if s.index .ecx = 0 then .ok s
    else
      match one s with
      | .error e => .error e
      | .ok t =>
        let u := t.setEReg s.addrSize .ecx (s.index .ecx - 1)
        .ok (if repeatsOn p compares (truncSize s.addrSize (s.index .ecx - 1)) u then u.again else u)

/-- MOVS of bytes (R362). -/
def execMovsB (s : State) : Out := perform .repOnly s fun s => s.repeated false (State.movsOne .b8)

/-- MOVS of words or doublewords (R362). -/
def execMovsV (s : State) : Out := perform .repOnly s fun s => s.repeated false (State.movsOne s.opSize.width)

/-- CMPS of bytes (R247). -/
def execCmpsB (s : State) : Out := perform .repBoth s fun s => s.repeated true (State.cmpsOne .b8)

/-- CMPS of words or doublewords (R247). -/
def execCmpsV (s : State) : Out := perform .repBoth s fun s => s.repeated true (State.cmpsOne s.opSize.width)

/-- SCAS of bytes (R426). -/
def execScasB (s : State) : Out := perform .repBoth s fun s => s.repeated true (State.scasOne .b8)

/-- SCAS of words or doublewords (R426). -/
def execScasV (s : State) : Out := perform .repBoth s fun s => s.repeated true (State.scasOne s.opSize.width)

/-- LODS of bytes (R344). -/
def execLodsB (s : State) : Out := perform .repOnly s fun s => s.repeated false (State.lodsOne .b8)

/-- LODS of words or doublewords (R344). -/
def execLodsV (s : State) : Out := perform .repOnly s fun s => s.repeated false (State.lodsOne s.opSize.width)

/-- STOS of bytes (R436). -/
def execStosB (s : State) : Out := perform .repOnly s fun s => s.repeated false (State.stosOne .b8)

/-- STOS of words or doublewords (R436). -/
def execStosV (s : State) : Out := perform .repOnly s fun s => s.repeated false (State.stosOne s.opSize.width)

/-- INS of bytes (R276). -/
def execInsB (s : State) : Out := perform .repOnly s fun s => s.repeated false (State.insOne .b8)

/-- INS of words or doublewords (R276). -/
def execInsV (s : State) : Out := perform .repOnly s fun s => s.repeated false (State.insOne s.opSize.width)

/-- OUTS of bytes (R373). -/
def execOutsB (s : State) : Out := perform .repOnly s fun s => s.repeated false (State.outsOne .b8)

/-- OUTS of words or doublewords (R373). -/
def execOutsV (s : State) : Out := perform .repOnly s fun s => s.repeated false (State.outsOne s.opSize.width)

end Sys2Proof.Machine
end

