-- ==== Sys2Proof/Machine/System.lean ====
section
/-! DEFINITION. Machine/System.lean: ARPL, LAR, LSL, VERR, VERW, the system registers, CR0, HLT, WAIT, ESC. -/

namespace Sys2Proof.Machine

/-! ### Selectors: ARPL, LAR, LSL, VERR, VERW -/

/-- The instructions that Real Address Mode and V86 mode do not recognise: #UD there (R475). -/
def State.needProtected (s : State) : Res Unit := needUD s.protectedMode

/-- ZF alone changes. -/
def State.withZf (s : State) (z : Bool) : State := { s with flags := { s.flags with zf := z } }

/-- ARPL: raises the RPL of the destination to that of the source (R207). DESIGN CHOICE (log 55, unsafe): where ZF is
cleared, a memory destination is checked for writing and not written. -/
def State.adjustRpl (s : State) (rm : RM) (src : BitVec 16) : Res State :=
  match s.needProtected with
  | .error e => .error e
  | .ok _ =>
    match s.readDest .w16 rm with
    | .error e => .error e
    | .ok (a : BitVec 16) =>
      if rpl a < rpl src then (s.withZf true).writeRM .w16 rm (withRpl a (rpl src)) else .ok (s.withZf false)

/-- The selector can be seen at CPL weakened by its RPL (R331, R346, R440). -/
def State.visible (s : State) (sel : BitVec 16) (d : Desc) : Bool :=
  d.conforming || (decide (s.cpl ≤ d.dpl) && decide (rpl sel ≤ d.dpl))

/-- The descriptor of a selector that is not null, within its table and visible; a bad selector is no fault (R331). -/
def State.visibleDesc (s : State) (sel : BitVec 16) : Res (Option Desc) :=
  if isNull sel then .ok none
  else
    match s.descOf? sel with
    | .error e => .error e
    | .ok none => .ok none
    | .ok (some d) => .ok (if s.visible sel d then some d else none)

/-- The selector in an r/m operand: 16 bits at every operand size (R331). -/
def State.selectorAt (s : State) (rm : RM) : Res (BitVec 16) := s.readRM .w16 rm

/-- The visible descriptor of the selector in an r/m operand, outside Protected Mode #UD. -/
def State.probe (s : State) (rm : RM) : Res (Option Desc) :=
  match s.needProtected with
  | .error e => .error e
  | .ok _ =>
    match s.selectorAt rm with
    | .error e => .error e
    | .ok sel => s.visibleDesc sel

/-- The descriptor types that LAR accepts (R331). -/
def Desc.larType (d : Desc) : Bool := d.isSeg || d.isSys [1, 2, 3, 4, 5, 6, 7, 9, 11, 12, 14, 15]

/-- The descriptor types that LSL accepts (R346). -/
def Desc.lslType (d : Desc) : Bool := d.isSeg || d.isSys [1, 2, 3, 9, 11]

/-- The access rights that LAR loads: the high doubleword under 00FxFF00H, where the four bits x are free (R331, D28). -/
def Desc.rights (d : Desc) (free : BitVec 32) : BitVec 32 := (d.hi &&& 0x00F0FF00) ||| (free &&& 0x000F0000)

/-- LAR (R331). -/
def State.loadRights (s : State) (r : Reg) (rm : RM) : Res State :=
  match s.probe rm with
  | .error e => .error e
  | .ok none => .ok (s.withZf false)
  | .ok (some d) =>
    if d.larType then .ok ((s.draw.2.withZf true).setEReg s.opSize r (d.rights s.draw.1)) else .ok (s.withZf false)

/-- LSL (R346). -/
def State.loadLimit (s : State) (r : Reg) (rm : RM) : Res State :=
  match s.probe rm with
  | .error e => .error e
  | .ok none => .ok (s.withZf false)
  | .ok (some d) => if d.lslType then .ok ((s.withZf true).setEReg s.opSize r d.limit) else .ok (s.withZf false)

/-- VERR and VERW: `ok` says whether the descriptor allows the access (R440). -/
def State.verify (s : State) (rm : RM) (ok : Desc → Bool) : Res State :=
  match s.probe rm with
  | .error e => .error e
  | .ok none => .ok (s.withZf false)
  | .ok (some d) => .ok (s.withZf (ok d))

/-! ### System segment registers: SLDT, STR, LLDT, LTR -/

/-- SLDT and STR: 16 bits are written, whatever the operand size (R431, R437). -/
def State.storeSystem (s : State) (rm : RM) (sel : BitVec 16) : Res State :=
  match s.needProtected with
  | .error e => .error e
  | .ok _ => s.writeRM .w16 rm sel

/-- LDTR and TR as a descriptor makes them (R51). -/
def Desc.toSys (d : Desc) (sel : BitVec 16) : SysReg :=
  { sel := sel, valid := true, base := d.base, limit := d.limit, is386 := d.is386 }

/-- LDTR after a null selector: invalid (R341). DESIGN CHOICE (log 57, safe): its base, limit and type are 0; nothing reads
them while it is invalid. -/
def SysReg.null (sel : BitVec 16) : SysReg := { sel := sel, valid := false, base := 0, limit := 0, is386 := false }

/-- The selector operand of LLDT and LTR: Protected Mode, level 0 (R341, R347, R475). -/
def State.systemOperand (s : State) (rm : RM) : Res (BitVec 16) := do
  s.needProtected
  s.needCpl0
  s.selectorAt rm

/-- LLDT (R341). -/
def State.loadLdt (s : State) (rm : RM) : Res State := do
  let sel ← s.systemOperand rm
  if isNull sel then pure { s with tables := { s.tables with ldtr := SysReg.null sel } }
  else do
    need (!isLocal sel) (excGP (selCode sel))
    let d ← s.descOf sel (excGP (selCode sel))
    need (d.isSys [2]) (excGP (selCode sel))
    need d.present (excNP (selCode sel))
    pure { s with tables := { s.tables with ldtr := d.toSys sel } }

/-- The descriptor's access-rights byte with the busy bit set (R347). -/
def Desc.busyByte (d : Desc) : Byte := d.hi.extractLsb' 8 8 ||| 2

/-- LTR: the busy bit is set in the GDT (R347). -/
def State.loadTr (s : State) (rm : RM) : Res State := do
  let sel ← s.systemOperand rm
  need (!isNull sel) (excGP 0)
  need (!isLocal sel) (excGP (selCode sel))
  let d ← s.descOf sel (excGP (selCode sel))
  need (d.isSys [1, 9]) (excGP (selCode sel))
  need d.present (excNP (selCode sel))
  let t ← s.linWriteBytes false (s.tables.gdtr.base + (sel &&& 0xFFF8).setWidth 32 + 5) [d.busyByte]
  pure { t with tables := { t.tables with tr := d.toSys sel } }

/-! ### Descriptor table registers: SGDT, SIDT, LGDT, LIDT -/

/-- The base that the operand size leaves: 24 bits for 16 (R334, R428). -/
def tableBase (size : Size) (b : BitVec 32) : BitVec 32 :=
  match size with
  | .s16 => b &&& 0x00FFFFFF
  | .s32 => b

/-- The six bytes of a table register in memory: the limit, then the base (R428). -/
def TableReg.bytes (t : TableReg) (size : Size) : List Byte :=
  leBytes 2 t.limit.toNat ++ leBytes 4 (tableBase size t.base).toNat

/-- SGDT and SIDT (R428). -/
def State.storeTable (s : State) (rm : RM) (t : TableReg) : Res State :=
  match needMem rm with
  | .error e => .error e
  | .ok ea => s.memWriteBytes (s.eaSeg ea) (s.eaOff ea) (t.bytes s.opSize)

/-- The operand of LGDT and LIDT: a register is #UD first, then level 0, then six bytes of memory (R334). -/
def State.loadTable (s : State) (rm : RM) : Res TableReg := do
  let ea ← needMem rm
  s.needCpl0
  let bs ← s.memBytesAt (s.eaSeg ea) (s.eaOff ea) 6
  pure { limit := BitVec.ofNat 16 (leNat (bs.take 2)), base := tableBase s.opSize (BitVec.ofNat 32 (leNat (bs.drop 2))) }

/-- LGDT (R334). -/
def State.loadGdt (s : State) (rm : RM) : Res State :=
  match s.loadTable rm with
  | .error e => .error e
  | .ok t => .ok { s with tables := { s.tables with gdtr := t } }

/-- LIDT (R334). -/
def State.loadIdt (s : State) (rm : RM) : Res State :=
  match s.loadTable rm with
  | .error e => .error e
  | .ok t => .ok { s with tables := { s.tables with idtr := t } }

/-! ### CR0 and the special registers: SMSW, LMSW, CLTS, MOV -/

/-- The value of CR0: bits 30:5 read 0 (R42, D34). -/
def Cr0.image (c : Cr0) : BitVec 32 :=
  BitVec.ofBool c.pg ++ 0#26 ++ BitVec.ofBool c.et ++ BitVec.ofBool c.ts ++ BitVec.ofBool c.em ++ BitVec.ofBool c.mp ++
    BitVec.ofBool c.pe

/-- CR0 as MOV CR0 loads it: bits 30:5 are discarded (R42, D34). -/
def Cr0.ofImage (v : BitVec 32) : Cr0 :=
  { pe := v.getLsbD 0, mp := v.getLsbD 1, em := v.getLsbD 2, ts := v.getLsbD 3, et := v.getLsbD 4, pg := v.getLsbD 31 }

/-- CR0 as LMSW loads it: PE can only be set (R342). -/
def Cr0.loadMsw (c : Cr0) (v : BitVec 16) : Cr0 :=
  { c with pe := c.pe || v.getLsbD 0, mp := v.getLsbD 1, em := v.getLsbD 2, ts := v.getLsbD 3 }

/-- Writes CR0; a switch of PE must be followed by a taken control transfer (R502). -/
def State.setCr0 (s : State) (c : Cr0) : State :=
  { s with
    ctrl := { s.ctrl with cr0 := c }
    seq := { s.seq with peSwitch := s.seq.peSwitch || s.ctrl.cr0.pe != c.pe } }

/-- LMSW (R342). -/
def State.loadMsw (s : State) (rm : RM) : Res State := do
  s.needCpl0
  let v ← s.readRM .w16 rm
  pure (s.setCr0 (s.ctrl.cr0.loadMsw v))

/-- A control register; the codes 1 and 4 to 7 name none (R43, R361). -/
def State.readCr (s : State) (code : BitVec 3) : Option (BitVec 32) :=
  match code.toNat with
  | 0 => some s.ctrl.cr0.image
  | 2 => some s.ctrl.cr2
  | 3 => some s.ctrl.cr3
  | _ => none

/-- Writes a control register; the low 12 bits of CR3 are discarded (R42, R43). -/
def State.writeCr (s : State) (code : BitVec 3) (v : BitVec 32) : Option State :=
  match code.toNat with
  | 0 => some (s.setCr0 (Cr0.ofImage v))
  | 2 => some { s with ctrl := { s.ctrl with cr2 := v } }
  | 3 => some { s with ctrl := { s.ctrl with cr3 := v &&& 0xFFFFF000 } }
  | _ => none

/-- A debug register; the codes 4 and 5 name none (R44, R361). -/
def State.readDr (s : State) (code : BitVec 3) : Option (BitVec 32) :=
  match code.toNat with
  | 0 => some s.ctrl.dr0
  | 1 => some s.ctrl.dr1
  | 2 => some s.ctrl.dr2
  | 3 => some s.ctrl.dr3
  | 6 => some s.ctrl.dr6
  | 7 => some s.ctrl.dr7
  | _ => none

/-- Writes a debug register (R44). -/
def State.writeDr (s : State) (code : BitVec 3) (v : BitVec 32) : Option State :=
  match code.toNat with
  | 0 => some { s with ctrl := { s.ctrl with dr0 := v } }
  | 1 => some { s with ctrl := { s.ctrl with dr1 := v } }
  | 2 => some { s with ctrl := { s.ctrl with dr2 := v } }
  | 3 => some { s with ctrl := { s.ctrl with dr3 := v } }
  | 6 => some { s with ctrl := { s.ctrl with dr6 := v } }
  | 7 => some { s with ctrl := { s.ctrl with dr7 := v } }
  | _ => none

/-- A test register; only the codes 6 and 7 name one (R45, R361). -/
def State.readTr (s : State) (code : BitVec 3) : Option (BitVec 32) :=
  match code.toNat with
  | 6 => some s.ctrl.tr6
  | 7 => some s.ctrl.tr7
  | _ => none

/-- Writes a test register (R45). -/
def State.writeTr (s : State) (code : BitVec 3) (v : BitVec 32) : Option State :=
  match code.toNat with
  | 6 => some { s with ctrl := { s.ctrl with tr6 := v } }
  | 7 => some { s with ctrl := { s.ctrl with tr7 := v } }
  | _ => none

/-- The six flags, which MOV to and from a special register leaves undefined (R361, D14). -/
def statusFlags : List StatusFlag := [.ofl, .sf, .zf, .af, .pf, .cf]

/-- MOV from a special register: a code that names none is #UD, then level 0 (R361, D13). -/
def State.moveFromSpecial (s : State) (r : Reg) (v : Option (BitVec 32)) : Res State :=
  match v with
  | none => raise excUD
  | some v =>
    match s.needCpl0 with
    | .error e => .error e
    | .ok _ => .ok ((s.undefineFlags statusFlags).setReg .d32 r v)

/-- MOV to a special register (R361, D13). -/
def State.moveToSpecial (s : State) (t : Option State) : Res State :=
  match t with
  | none => raise excUD
  | some t =>
    match s.needCpl0 with
    | .error e => .error e
    | .ok _ => .ok (t.undefineFlags statusFlags)

/-! ### The coprocessor's pins: WAIT, ESC -/

/-- WAIT while BUSY# is active: the instruction is executed again, and can be interrupted before (R441). DEDUCED (log 17,
unsafe): an inhibit state lasts until WAIT ends, since R48 holds it until after the next instruction. -/
def State.waitHere (s : State) : State :=
  { s with eip := s.seq.startEip, seq := { s.seq with inhibit := s.seq.held, stepTrap := false } }

/-- WAIT (R441, D22). -/
def State.waitPins (s : State) : Res State :=
  if s.ctrl.cr0.mp && s.ctrl.cr0.ts then raise excNM
  else if s.pins.error then raise excMF
  else if s.pins.busy then .ok s.waitHere
  else .ok s

/-- The memory operand of ESC: its address is checked, and what lies there is the coprocessor's (R478, log 16). -/
def State.escOperand (s : State) : RM → Res Unit
  | .reg _ => .ok ()
  | .mem ea =>
    match s.memBytesAt (s.eaSeg ea) (s.eaOff ea) 1 with
    | .error e => .error e
    | .ok _ => .ok ()

/-- ESC: #NM if EM or TS is set; with no coprocessor otherwise no operation (R478, D22). -/
def State.escape (s : State) (rm : RM) : Res State :=
  if s.ctrl.cr0.em || s.ctrl.cr0.ts then raise excNM
  else
    match s.escOperand rm with
    | .error e => .error e
    | .ok _ => if Config.hasNpx then .error (.refuse .coprocessor) else .ok s

/-! ### Meanings -/

/-- ARPL r/m16,r16 (R207). -/
def execArpl (rm : RM) (r : Reg) (s : State) : Out :=
  perform .none s fun s => s.adjustRpl rm (s.reg .w16 r)

/-- LAR (R331). -/
def execLar (r : Reg) (rm : RM) (s : State) : Out :=
  perform .none s fun s => s.loadRights r rm

/-- LSL (R346). -/
def execLsl (r : Reg) (rm : RM) (s : State) : Out :=
  perform .none s fun s => s.loadLimit r rm

/-- VERR (R440). -/
def execVerr (rm : RM) (s : State) : Out :=
  perform .none s fun s => s.verify rm Desc.readable

/-- VERW (R440). -/
def execVerw (rm : RM) (s : State) : Out :=
  perform .none s fun s => s.verify rm Desc.writableData

/-- SLDT (R431). -/
def execSldt (rm : RM) (s : State) : Out :=
  perform .none s fun s => s.storeSystem rm s.tables.ldtr.sel

/-- STR (R437). -/
def execStr (rm : RM) (s : State) : Out :=
  perform .none s fun s => s.storeSystem rm s.tables.tr.sel

/-- LLDT (R341). -/
def execLldt (rm : RM) (s : State) : Out :=
  perform .none s fun s => s.loadLdt rm

/-- LTR (R347). -/
def execLtr (rm : RM) (s : State) : Out :=
  perform .none s fun s => s.loadTr rm

/-- SGDT (R428). -/
def execSgdt (rm : RM) (s : State) : Out :=
  perform .none s fun s => s.storeTable rm s.tables.gdtr

/-- SIDT (R428). -/
def execSidt (rm : RM) (s : State) : Out :=
  perform .none s fun s => s.storeTable rm s.tables.idtr

/-- LGDT (R334). -/
def execLgdt (rm : RM) (s : State) : Out :=
  perform .none s fun s => s.loadGdt rm

/-- LIDT (R334). -/
def execLidt (rm : RM) (s : State) : Out :=
  perform .none s fun s => s.loadIdt rm

/-- SMSW: the low 16 bits of CR0 (R432). -/
def execSmsw (rm : RM) (s : State) : Out :=
  perform .none s fun s => s.storeWordFree rm (s.ctrl.cr0.image.setWidth 16)

/-- LMSW (R342). -/
def execLmsw (rm : RM) (s : State) : Out :=
  perform .none s fun s => s.loadMsw rm

/-- CLTS (R244). -/
def execClts (s : State) : Out :=
  perform .none s fun s =>
    match s.needCpl0 with
    | .error e => .error e
    | .ok _ => .ok { s with ctrl := { s.ctrl with cr0 := { s.ctrl.cr0 with ts := false } } }

/-- MOV r32,CR0/CR2/CR3 (R361). -/
def execMovRCr (r : Reg) (code : BitVec 3) (s : State) : Out :=
  perform .none s fun s => s.moveFromSpecial r (s.readCr code)

/-- MOV CR0/CR2/CR3,r32 (R361). -/
def execMovCrR (code : BitVec 3) (r : Reg) (s : State) : Out :=
  perform .none s fun s => s.moveToSpecial (s.writeCr code (s.reg .d32 r))

/-- MOV r32,DR0-3/DR6/DR7 (R361). -/
def execMovRDr (r : Reg) (code : BitVec 3) (s : State) : Out :=
  perform .none s fun s => s.moveFromSpecial r (s.readDr code)

/-- MOV DR0-3/DR6/DR7,r32 (R361). -/
def execMovDrR (code : BitVec 3) (r : Reg) (s : State) : Out :=
  perform .none s fun s => s.moveToSpecial (s.writeDr code (s.reg .d32 r))

/-- MOV r32,TR6/TR7 (R361). -/
def execMovRTr (r : Reg) (code : BitVec 3) (s : State) : Out :=
  perform .none s fun s => s.moveFromSpecial r (s.readTr code)

/-- MOV TR6/TR7,r32 (R361). -/
def execMovTrR (code : BitVec 3) (r : Reg) (s : State) : Out :=
  perform .none s fun s => s.moveToSpecial (s.writeTr code (s.reg .d32 r))

/-- HLT (R271). -/
def execHlt (s : State) : Out :=
  perform .none s fun s =>
    match s.needCpl0 with
    | .error e => .error e
    | .ok _ => .ok { s with seq := { s.seq with halted := true } }

/-- WAIT (R441). -/
def execWait (s : State) : Out :=
  perform .none s fun s => s.waitPins

/-- ESC (R478). -/
def execEsc (_ _ : BitVec 3) (rm : RM) (s : State) : Out :=
  perform .none s fun s => s.escape rm

end Sys2Proof.Machine
end

