-- ==== Sys2Proof/Machine/Dispatch.lean ====
section
/-! DEFINITION. Machine/Dispatch.lean: one arm per instruction, each one call of its meaning. -/

namespace Sys2Proof.Machine

def exec (i : Instr) (s : State) : Host.Outcome State Fault Refusal :=
  match i with
  | .addRm8R8 rm r => Sys2Proof.Machine.execAddRm8R8 rm r s
  | .addRmvRv rm r => Sys2Proof.Machine.execAddRmvRv rm r s
  | .addR8Rm8 r rm => Sys2Proof.Machine.execAddR8Rm8 r rm s
  | .addRvRmv r rm => Sys2Proof.Machine.execAddRvRmv r rm s
  | .addAlImm8 imm => Sys2Proof.Machine.execAddAlImm8 imm s
  | .addEaxImmv imm => Sys2Proof.Machine.execAddEaxImmv imm s
  | .addRm8Imm8 rm imm => Sys2Proof.Machine.execAddRm8Imm8 rm imm s
  | .addRmvImmv rm imm => Sys2Proof.Machine.execAddRmvImmv rm imm s
  | .addRmvImm8 rm imm => Sys2Proof.Machine.execAddRmvImm8 rm imm s
  | .orRm8R8 rm r => Sys2Proof.Machine.execOrRm8R8 rm r s
  | .orRmvRv rm r => Sys2Proof.Machine.execOrRmvRv rm r s
  | .orR8Rm8 r rm => Sys2Proof.Machine.execOrR8Rm8 r rm s
  | .orRvRmv r rm => Sys2Proof.Machine.execOrRvRmv r rm s
  | .orAlImm8 imm => Sys2Proof.Machine.execOrAlImm8 imm s
  | .orEaxImmv imm => Sys2Proof.Machine.execOrEaxImmv imm s
  | .orRm8Imm8 rm imm => Sys2Proof.Machine.execOrRm8Imm8 rm imm s
  | .orRmvImmv rm imm => Sys2Proof.Machine.execOrRmvImmv rm imm s
  | .orRmvImm8 rm imm => Sys2Proof.Machine.execOrRmvImm8 rm imm s
  | .adcRm8R8 rm r => Sys2Proof.Machine.execAdcRm8R8 rm r s
  | .adcRmvRv rm r => Sys2Proof.Machine.execAdcRmvRv rm r s
  | .adcR8Rm8 r rm => Sys2Proof.Machine.execAdcR8Rm8 r rm s
  | .adcRvRmv r rm => Sys2Proof.Machine.execAdcRvRmv r rm s
  | .adcAlImm8 imm => Sys2Proof.Machine.execAdcAlImm8 imm s
  | .adcEaxImmv imm => Sys2Proof.Machine.execAdcEaxImmv imm s
  | .adcRm8Imm8 rm imm => Sys2Proof.Machine.execAdcRm8Imm8 rm imm s
  | .adcRmvImmv rm imm => Sys2Proof.Machine.execAdcRmvImmv rm imm s
  | .adcRmvImm8 rm imm => Sys2Proof.Machine.execAdcRmvImm8 rm imm s
  | .sbbRm8R8 rm r => Sys2Proof.Machine.execSbbRm8R8 rm r s
  | .sbbRmvRv rm r => Sys2Proof.Machine.execSbbRmvRv rm r s
  | .sbbR8Rm8 r rm => Sys2Proof.Machine.execSbbR8Rm8 r rm s
  | .sbbRvRmv r rm => Sys2Proof.Machine.execSbbRvRmv r rm s
  | .sbbAlImm8 imm => Sys2Proof.Machine.execSbbAlImm8 imm s
  | .sbbEaxImmv imm => Sys2Proof.Machine.execSbbEaxImmv imm s
  | .sbbRm8Imm8 rm imm => Sys2Proof.Machine.execSbbRm8Imm8 rm imm s
  | .sbbRmvImmv rm imm => Sys2Proof.Machine.execSbbRmvImmv rm imm s
  | .sbbRmvImm8 rm imm => Sys2Proof.Machine.execSbbRmvImm8 rm imm s
  | .andRm8R8 rm r => Sys2Proof.Machine.execAndRm8R8 rm r s
  | .andRmvRv rm r => Sys2Proof.Machine.execAndRmvRv rm r s
  | .andR8Rm8 r rm => Sys2Proof.Machine.execAndR8Rm8 r rm s
  | .andRvRmv r rm => Sys2Proof.Machine.execAndRvRmv r rm s
  | .andAlImm8 imm => Sys2Proof.Machine.execAndAlImm8 imm s
  | .andEaxImmv imm => Sys2Proof.Machine.execAndEaxImmv imm s
  | .andRm8Imm8 rm imm => Sys2Proof.Machine.execAndRm8Imm8 rm imm s
  | .andRmvImmv rm imm => Sys2Proof.Machine.execAndRmvImmv rm imm s
  | .andRmvImm8 rm imm => Sys2Proof.Machine.execAndRmvImm8 rm imm s
  | .subRm8R8 rm r => Sys2Proof.Machine.execSubRm8R8 rm r s
  | .subRmvRv rm r => Sys2Proof.Machine.execSubRmvRv rm r s
  | .subR8Rm8 r rm => Sys2Proof.Machine.execSubR8Rm8 r rm s
  | .subRvRmv r rm => Sys2Proof.Machine.execSubRvRmv r rm s
  | .subAlImm8 imm => Sys2Proof.Machine.execSubAlImm8 imm s
  | .subEaxImmv imm => Sys2Proof.Machine.execSubEaxImmv imm s
  | .subRm8Imm8 rm imm => Sys2Proof.Machine.execSubRm8Imm8 rm imm s
  | .subRmvImmv rm imm => Sys2Proof.Machine.execSubRmvImmv rm imm s
  | .subRmvImm8 rm imm => Sys2Proof.Machine.execSubRmvImm8 rm imm s
  | .xorRm8R8 rm r => Sys2Proof.Machine.execXorRm8R8 rm r s
  | .xorRmvRv rm r => Sys2Proof.Machine.execXorRmvRv rm r s
  | .xorR8Rm8 r rm => Sys2Proof.Machine.execXorR8Rm8 r rm s
  | .xorRvRmv r rm => Sys2Proof.Machine.execXorRvRmv r rm s
  | .xorAlImm8 imm => Sys2Proof.Machine.execXorAlImm8 imm s
  | .xorEaxImmv imm => Sys2Proof.Machine.execXorEaxImmv imm s
  | .xorRm8Imm8 rm imm => Sys2Proof.Machine.execXorRm8Imm8 rm imm s
  | .xorRmvImmv rm imm => Sys2Proof.Machine.execXorRmvImmv rm imm s
  | .xorRmvImm8 rm imm => Sys2Proof.Machine.execXorRmvImm8 rm imm s
  | .cmpRm8R8 rm r => Sys2Proof.Machine.execCmpRm8R8 rm r s
  | .cmpRmvRv rm r => Sys2Proof.Machine.execCmpRmvRv rm r s
  | .cmpR8Rm8 r rm => Sys2Proof.Machine.execCmpR8Rm8 r rm s
  | .cmpRvRmv r rm => Sys2Proof.Machine.execCmpRvRmv r rm s
  | .cmpAlImm8 imm => Sys2Proof.Machine.execCmpAlImm8 imm s
  | .cmpEaxImmv imm => Sys2Proof.Machine.execCmpEaxImmv imm s
  | .cmpRm8Imm8 rm imm => Sys2Proof.Machine.execCmpRm8Imm8 rm imm s
  | .cmpRmvImmv rm imm => Sys2Proof.Machine.execCmpRmvImmv rm imm s
  | .cmpRmvImm8 rm imm => Sys2Proof.Machine.execCmpRmvImm8 rm imm s
  | .aam imm => Sys2Proof.Machine.execAam imm s
  | .aad imm => Sys2Proof.Machine.execAad imm s
  | .incRv r => Sys2Proof.Machine.execIncRv r s
  | .decRv r => Sys2Proof.Machine.execDecRv r s
  | .pushRv r => Sys2Proof.Machine.execPushRv r s
  | .popRv r => Sys2Proof.Machine.execPopRv r s
  | .bound r rm => Sys2Proof.Machine.execBound r rm s
  | .arpl rm r => Sys2Proof.Machine.execArpl rm r s
  | .pushImmv imm => Sys2Proof.Machine.execPushImmv imm s
  | .imulRvRmvImmv r rm imm => Sys2Proof.Machine.execImulRvRmvImmv r rm imm s
  | .pushImm8 imm => Sys2Proof.Machine.execPushImm8 imm s
  | .imulRvRmvImm8 r rm imm => Sys2Proof.Machine.execImulRvRmvImm8 r rm imm s
  | .jo rel => Sys2Proof.Machine.execJo rel s
  | .jno rel => Sys2Proof.Machine.execJno rel s
  | .jb rel => Sys2Proof.Machine.execJb rel s
  | .jnb rel => Sys2Proof.Machine.execJnb rel s
  | .jz rel => Sys2Proof.Machine.execJz rel s
  | .jnz rel => Sys2Proof.Machine.execJnz rel s
  | .jbe rel => Sys2Proof.Machine.execJbe rel s
  | .jnbe rel => Sys2Proof.Machine.execJnbe rel s
  | .js rel => Sys2Proof.Machine.execJs rel s
  | .jns rel => Sys2Proof.Machine.execJns rel s
  | .jp rel => Sys2Proof.Machine.execJp rel s
  | .jnp rel => Sys2Proof.Machine.execJnp rel s
  | .jl rel => Sys2Proof.Machine.execJl rel s
  | .jnl rel => Sys2Proof.Machine.execJnl rel s
  | .jle rel => Sys2Proof.Machine.execJle rel s
  | .jnle rel => Sys2Proof.Machine.execJnle rel s
  | .seto rm => Sys2Proof.Machine.execSeto rm s
  | .setno rm => Sys2Proof.Machine.execSetno rm s
  | .setb rm => Sys2Proof.Machine.execSetb rm s
  | .setnb rm => Sys2Proof.Machine.execSetnb rm s
  | .setz rm => Sys2Proof.Machine.execSetz rm s
  | .setnz rm => Sys2Proof.Machine.execSetnz rm s
  | .setbe rm => Sys2Proof.Machine.execSetbe rm s
  | .setnbe rm => Sys2Proof.Machine.execSetnbe rm s
  | .sets rm => Sys2Proof.Machine.execSets rm s
  | .setns rm => Sys2Proof.Machine.execSetns rm s
  | .setp rm => Sys2Proof.Machine.execSetp rm s
  | .setnp rm => Sys2Proof.Machine.execSetnp rm s
  | .setl rm => Sys2Proof.Machine.execSetl rm s
  | .setnl rm => Sys2Proof.Machine.execSetnl rm s
  | .setle rm => Sys2Proof.Machine.execSetle rm s
  | .setnle rm => Sys2Proof.Machine.execSetnle rm s
  | .testRm8R8 rm r => Sys2Proof.Machine.execTestRm8R8 rm r s
  | .testRmvRv rm r => Sys2Proof.Machine.execTestRmvRv rm r s
  | .xchgRm8R8 rm r => Sys2Proof.Machine.execXchgRm8R8 rm r s
  | .xchgRmvRv rm r => Sys2Proof.Machine.execXchgRmvRv rm r s
  | .movRm8R8 rm r => Sys2Proof.Machine.execMovRm8R8 rm r s
  | .movRmvRv rm r => Sys2Proof.Machine.execMovRmvRv rm r s
  | .movR8Rm8 r rm => Sys2Proof.Machine.execMovR8Rm8 r rm s
  | .movRvRmv r rm => Sys2Proof.Machine.execMovRvRmv r rm s
  | .movRmSreg rm code => Sys2Proof.Machine.execMovRmSreg rm code s
  | .lea r rm => Sys2Proof.Machine.execLea r rm s
  | .movSregRm code rm => Sys2Proof.Machine.execMovSregRm code rm s
  | .popRmv rm => Sys2Proof.Machine.execPopRmv rm s
  | .xchgEaxRv r => Sys2Proof.Machine.execXchgEaxRv r s
  | .callFar off sel => Sys2Proof.Machine.execCallFar off sel s
  | .movAlMoffs off => Sys2Proof.Machine.execMovAlMoffs off s
  | .movEaxMoffs off => Sys2Proof.Machine.execMovEaxMoffs off s
  | .movMoffsAl off => Sys2Proof.Machine.execMovMoffsAl off s
  | .movMoffsEax off => Sys2Proof.Machine.execMovMoffsEax off s
  | .testAlImm8 imm => Sys2Proof.Machine.execTestAlImm8 imm s
  | .testEaxImmv imm => Sys2Proof.Machine.execTestEaxImmv imm s
  | .movR8Imm8 r imm => Sys2Proof.Machine.execMovR8Imm8 r imm s
  | .movRvImmv r imm => Sys2Proof.Machine.execMovRvImmv r imm s
  | .rolRm8 rm count => Sys2Proof.Machine.execRolRm8 rm count s
  | .rolRmv rm count => Sys2Proof.Machine.execRolRmv rm count s
  | .rorRm8 rm count => Sys2Proof.Machine.execRorRm8 rm count s
  | .rorRmv rm count => Sys2Proof.Machine.execRorRmv rm count s
  | .rclRm8 rm count => Sys2Proof.Machine.execRclRm8 rm count s
  | .rclRmv rm count => Sys2Proof.Machine.execRclRmv rm count s
  | .rcrRm8 rm count => Sys2Proof.Machine.execRcrRm8 rm count s
  | .rcrRmv rm count => Sys2Proof.Machine.execRcrRmv rm count s
  | .shlRm8 rm count => Sys2Proof.Machine.execShlRm8 rm count s
  | .shlRmv rm count => Sys2Proof.Machine.execShlRmv rm count s
  | .shrRm8 rm count => Sys2Proof.Machine.execShrRm8 rm count s
  | .shrRmv rm count => Sys2Proof.Machine.execShrRmv rm count s
  | .sarRm8 rm count => Sys2Proof.Machine.execSarRm8 rm count s
  | .sarRmv rm count => Sys2Proof.Machine.execSarRmv rm count s
  | .retNearImm imm => Sys2Proof.Machine.execRetNearImm imm s
  | .les r rm => Sys2Proof.Machine.execLes r rm s
  | .lds r rm => Sys2Proof.Machine.execLds r rm s
  | .movRm8Imm8 rm imm => Sys2Proof.Machine.execMovRm8Imm8 rm imm s
  | .movRmvImmv rm imm => Sys2Proof.Machine.execMovRmvImmv rm imm s
  | .enter size level => Sys2Proof.Machine.execEnter size level s
  | .retFarImm imm => Sys2Proof.Machine.execRetFarImm imm s
  | .intN imm => Sys2Proof.Machine.execIntN imm s
  | .esc op reg rm => Sys2Proof.Machine.execEsc op reg rm s
  | .loopneRel8 imm => Sys2Proof.Machine.execLoopneRel8 imm s
  | .loopeRel8 imm => Sys2Proof.Machine.execLoopeRel8 imm s
  | .loopRel8 imm => Sys2Proof.Machine.execLoopRel8 imm s
  | .jcxzRel8 imm => Sys2Proof.Machine.execJcxzRel8 imm s
  | .inAlImm8 imm => Sys2Proof.Machine.execInAlImm8 imm s
  | .inEaxImm8 imm => Sys2Proof.Machine.execInEaxImm8 imm s
  | .outImm8Al imm => Sys2Proof.Machine.execOutImm8Al imm s
  | .outImm8Eax imm => Sys2Proof.Machine.execOutImm8Eax imm s
  | .callRelv imm => Sys2Proof.Machine.execCallRelv imm s
  | .jmpRelv imm => Sys2Proof.Machine.execJmpRelv imm s
  | .jmpFar off sel => Sys2Proof.Machine.execJmpFar off sel s
  | .jmpRel8 imm => Sys2Proof.Machine.execJmpRel8 imm s
  | .testRm8Imm8 rm imm => Sys2Proof.Machine.execTestRm8Imm8 rm imm s
  | .testRmvImmv rm imm => Sys2Proof.Machine.execTestRmvImmv rm imm s
  | .notRm8 rm => Sys2Proof.Machine.execNotRm8 rm s
  | .notRmv rm => Sys2Proof.Machine.execNotRmv rm s
  | .negRm8 rm => Sys2Proof.Machine.execNegRm8 rm s
  | .negRmv rm => Sys2Proof.Machine.execNegRmv rm s
  | .mulRm8 rm => Sys2Proof.Machine.execMulRm8 rm s
  | .mulRmv rm => Sys2Proof.Machine.execMulRmv rm s
  | .imulRm8 rm => Sys2Proof.Machine.execImulRm8 rm s
  | .imulRmv rm => Sys2Proof.Machine.execImulRmv rm s
  | .divRm8 rm => Sys2Proof.Machine.execDivRm8 rm s
  | .divRmv rm => Sys2Proof.Machine.execDivRmv rm s
  | .idivRm8 rm => Sys2Proof.Machine.execIdivRm8 rm s
  | .idivRmv rm => Sys2Proof.Machine.execIdivRmv rm s
  | .incRm8 rm => Sys2Proof.Machine.execIncRm8 rm s
  | .decRm8 rm => Sys2Proof.Machine.execDecRm8 rm s
  | .incRmv rm => Sys2Proof.Machine.execIncRmv rm s
  | .decRmv rm => Sys2Proof.Machine.execDecRmv rm s
  | .callRmv rm => Sys2Proof.Machine.execCallRmv rm s
  | .callFarM rm => Sys2Proof.Machine.execCallFarM rm s
  | .jmpRmv rm => Sys2Proof.Machine.execJmpRmv rm s
  | .jmpFarM rm => Sys2Proof.Machine.execJmpFarM rm s
  | .pushRmv rm => Sys2Proof.Machine.execPushRmv rm s
  | .sldt rm => Sys2Proof.Machine.execSldt rm s
  | .str rm => Sys2Proof.Machine.execStr rm s
  | .lldt rm => Sys2Proof.Machine.execLldt rm s
  | .ltr rm => Sys2Proof.Machine.execLtr rm s
  | .verr rm => Sys2Proof.Machine.execVerr rm s
  | .verw rm => Sys2Proof.Machine.execVerw rm s
  | .sgdt rm => Sys2Proof.Machine.execSgdt rm s
  | .sidt rm => Sys2Proof.Machine.execSidt rm s
  | .lgdt rm => Sys2Proof.Machine.execLgdt rm s
  | .lidt rm => Sys2Proof.Machine.execLidt rm s
  | .smsw rm => Sys2Proof.Machine.execSmsw rm s
  | .lmsw rm => Sys2Proof.Machine.execLmsw rm s
  | .lar r rm => Sys2Proof.Machine.execLar r rm s
  | .lsl r rm => Sys2Proof.Machine.execLsl r rm s
  | .movRCr r code => Sys2Proof.Machine.execMovRCr r code s
  | .movRDr r code => Sys2Proof.Machine.execMovRDr r code s
  | .movCrR code r => Sys2Proof.Machine.execMovCrR code r s
  | .movDrR code r => Sys2Proof.Machine.execMovDrR code r s
  | .movRTr r code => Sys2Proof.Machine.execMovRTr r code s
  | .movTrR code r => Sys2Proof.Machine.execMovTrR code r s
  | .btRmvRv rm r => Sys2Proof.Machine.execBtRmvRv rm r s
  | .shldImm8 rm r imm => Sys2Proof.Machine.execShldImm8 rm r imm s
  | .shldCl rm r => Sys2Proof.Machine.execShldCl rm r s
  | .btsRmvRv rm r => Sys2Proof.Machine.execBtsRmvRv rm r s
  | .shrdImm8 rm r imm => Sys2Proof.Machine.execShrdImm8 rm r imm s
  | .shrdCl rm r => Sys2Proof.Machine.execShrdCl rm r s
  | .imulRvRmv r rm => Sys2Proof.Machine.execImulRvRmv r rm s
  | .lss r rm => Sys2Proof.Machine.execLss r rm s
  | .btrRmvRv rm r => Sys2Proof.Machine.execBtrRmvRv rm r s
  | .lfs r rm => Sys2Proof.Machine.execLfs r rm s
  | .lgs r rm => Sys2Proof.Machine.execLgs r rm s
  | .movzxRm8 r rm => Sys2Proof.Machine.execMovzxRm8 r rm s
  | .movzxRm16 r rm => Sys2Proof.Machine.execMovzxRm16 r rm s
  | .btRmvImm8 rm imm => Sys2Proof.Machine.execBtRmvImm8 rm imm s
  | .btsRmvImm8 rm imm => Sys2Proof.Machine.execBtsRmvImm8 rm imm s
  | .btrRmvImm8 rm imm => Sys2Proof.Machine.execBtrRmvImm8 rm imm s
  | .btcRmvImm8 rm imm => Sys2Proof.Machine.execBtcRmvImm8 rm imm s
  | .btcRmvRv rm r => Sys2Proof.Machine.execBtcRmvRv rm r s
  | .bsf r rm => Sys2Proof.Machine.execBsf r rm s
  | .bsr r rm => Sys2Proof.Machine.execBsr r rm s
  | .movsxRm8 r rm => Sys2Proof.Machine.execMovsxRm8 r rm s
  | .movsxRm16 r rm => Sys2Proof.Machine.execMovsxRm16 r rm s
  | .pushEs => Sys2Proof.Machine.execPushEs s
  | .pushCs => Sys2Proof.Machine.execPushCs s
  | .pushSs => Sys2Proof.Machine.execPushSs s
  | .pushDs => Sys2Proof.Machine.execPushDs s
  | .popEs => Sys2Proof.Machine.execPopEs s
  | .popSs => Sys2Proof.Machine.execPopSs s
  | .popDs => Sys2Proof.Machine.execPopDs s
  | .pushFs => Sys2Proof.Machine.execPushFs s
  | .popFs => Sys2Proof.Machine.execPopFs s
  | .pushGs => Sys2Proof.Machine.execPushGs s
  | .popGs => Sys2Proof.Machine.execPopGs s
  | .segEs => Sys2Proof.Machine.execSegEs s
  | .segCs => Sys2Proof.Machine.execSegCs s
  | .segSs => Sys2Proof.Machine.execSegSs s
  | .segDs => Sys2Proof.Machine.execSegDs s
  | .segFs => Sys2Proof.Machine.execSegFs s
  | .segGs => Sys2Proof.Machine.execSegGs s
  | .opsize => Sys2Proof.Machine.execOpsize s
  | .addrsize => Sys2Proof.Machine.execAddrsize s
  | .lock => Sys2Proof.Machine.execLock s
  | .repne => Sys2Proof.Machine.execRepne s
  | .rep => Sys2Proof.Machine.execRep s
  | .daa => Sys2Proof.Machine.execDaa s
  | .das => Sys2Proof.Machine.execDas s
  | .aaa => Sys2Proof.Machine.execAaa s
  | .aas => Sys2Proof.Machine.execAas s
  | .pusha => Sys2Proof.Machine.execPusha s
  | .popa => Sys2Proof.Machine.execPopa s
  | .insB => Sys2Proof.Machine.execInsB s
  | .insV => Sys2Proof.Machine.execInsV s
  | .outsB => Sys2Proof.Machine.execOutsB s
  | .outsV => Sys2Proof.Machine.execOutsV s
  | .nop => Sys2Proof.Machine.execNop s
  | .cbw => Sys2Proof.Machine.execCbw s
  | .cwd => Sys2Proof.Machine.execCwd s
  | .wait => Sys2Proof.Machine.execWait s
  | .pushf => Sys2Proof.Machine.execPushf s
  | .popf => Sys2Proof.Machine.execPopf s
  | .sahf => Sys2Proof.Machine.execSahf s
  | .lahf => Sys2Proof.Machine.execLahf s
  | .movsB => Sys2Proof.Machine.execMovsB s
  | .movsV => Sys2Proof.Machine.execMovsV s
  | .cmpsB => Sys2Proof.Machine.execCmpsB s
  | .cmpsV => Sys2Proof.Machine.execCmpsV s
  | .stosB => Sys2Proof.Machine.execStosB s
  | .stosV => Sys2Proof.Machine.execStosV s
  | .lodsB => Sys2Proof.Machine.execLodsB s
  | .lodsV => Sys2Proof.Machine.execLodsV s
  | .scasB => Sys2Proof.Machine.execScasB s
  | .scasV => Sys2Proof.Machine.execScasV s
  | .retNear => Sys2Proof.Machine.execRetNear s
  | .leave => Sys2Proof.Machine.execLeave s
  | .retFar => Sys2Proof.Machine.execRetFar s
  | .int3 => Sys2Proof.Machine.execInt3 s
  | .into => Sys2Proof.Machine.execInto s
  | .iret => Sys2Proof.Machine.execIret s
  | .xlat => Sys2Proof.Machine.execXlat s
  | .inAlDx => Sys2Proof.Machine.execInAlDx s
  | .inEaxDx => Sys2Proof.Machine.execInEaxDx s
  | .outDxAl => Sys2Proof.Machine.execOutDxAl s
  | .outDxEax => Sys2Proof.Machine.execOutDxEax s
  | .hlt => Sys2Proof.Machine.execHlt s
  | .cmc => Sys2Proof.Machine.execCmc s
  | .clc => Sys2Proof.Machine.execClc s
  | .stc => Sys2Proof.Machine.execStc s
  | .cli => Sys2Proof.Machine.execCli s
  | .sti => Sys2Proof.Machine.execSti s
  | .cld => Sys2Proof.Machine.execCld s
  | .std => Sys2Proof.Machine.execStd s
  | .clts => Sys2Proof.Machine.execClts s

end Sys2Proof.Machine
end

