-- ==== Sys2Proof/WellFormed.lean ====
section
/-! DEFINITION. WellFormed.lean: which instructions have an encoding under given operand-size and address-size attributes. -/

namespace Sys2Proof

/-- The three-bit code of a register (R31). -/
def Reg.code : Reg → BitVec 3
  | .eax => 0 | .ecx => 1 | .edx => 2 | .ebx => 3 | .esp => 4 | .ebp => 5 | .esi => 6 | .edi => 7

/-- The operands of an instruction in the order its bytes hold them (R140, R150): what follows the opcode.
`reg` is the reg field of the ModR/M byte. -/
inductive Operands where
  | none
  | plus (r : Reg)
  | plusImm8 (r : Reg) (imm : BitVec 8)
  | plusImmV (r : Reg) (imm : VImm)
  | modrm (reg : BitVec 3) (rm : RM)
  | modrmImm8 (reg : BitVec 3) (rm : RM) (imm : BitVec 8)
  | modrmImmV (reg : BitVec 3) (rm : RM) (imm : VImm)
  | imm8 (imm : BitVec 8)
  | imm16 (imm : BitVec 16)
  | immV (imm : VImm)
  | imm16Imm8 (size : BitVec 16) (level : BitVec 8)
  | moffs (off : VImm)
  | far (off : VImm) (sel : BitVec 16)
  | special (reg : BitVec 3) (r : Reg)
  | esc (op : BitVec 3) (reg : BitVec 3) (rm : RM)
deriving DecidableEq, Repr

/-- The field has the width the size attribute gives it. -/
def VImm.hasSize : VImm → Size → Bool
  | .w16 _, .s16 => true
  | .w32 _, .s32 => true
  | .w16 _, .s32 => false
  | .w32 _, .s16 => false

/-- A base without a displacement is an encoding of its own, except for BP (r/m 110, mod 00 means disp16, R145). -/
def Base16.dispOk : Base16 → Disp 16 → Bool
  | .bp, .none => false
  | _, _ => true

/-- EBP without a displacement has no encoding: that place means disp32 (R146, R147). -/
def Reg.dispOk (r : Reg) (d : Disp 32) : Bool := !(r == .ebp && d == .none)

/-- The addressing form has an encoding under the address size: ESP is a base only with a SIB byte and never an index
(R145 to R147). -/
def EA.wf : EA → Size → Bool
  | .a16 b d, .s16 => b.dispOk d
  | .a16abs _, .s16 => true
  | .a32 b d, .s32 => b != .esp && b.dispOk d
  | .a32abs _, .s32 => true
  | .sib _ x b d, .s32 => x != some .esp && b.dispOk d
  | .sibNoBase _ x _, .s32 => x != some .esp
  | _, _ => false

/-- A register operand always has an encoding, a memory operand when its addressing form has. -/
def RM.wf : RM → Size → Bool
  | .reg _, _ => true
  | .mem ea, as => ea.wf as

/-- The operand fields have the widths that the operand size `os` and the address size `as` give them (R142, R149). -/
def Operands.wf (os as : Size) : Operands → Bool
  | .none => true
  | .plus _ => true
  | .plusImm8 _ _ => true
  | .plusImmV _ i => i.hasSize os
  | .modrm _ rm => rm.wf as
  | .modrmImm8 _ rm _ => rm.wf as
  | .modrmImmV _ rm i => rm.wf as && i.hasSize os
  | .imm8 _ => true
  | .imm16 _ => true
  | .immV i => i.hasSize os
  | .imm16Imm8 _ _ => true
  | .moffs o => o.hasSize as
  | .far o _ => o.hasSize os
  | .special _ _ => true
  | .esc _ _ rm => rm.wf as

/-- The operands of a shift or rotate with digit `g`: only an immediate count follows the ModR/M operand (R154). -/
def Count.operands (g : BitVec 3) (rm : RM) : Count → Operands
  | .imm n => .modrmImm8 g rm n
  | .one => .modrm g rm
  | .cl => .modrm g rm

/-- The operand of a conditional jump: a byte or an OperandSize field (R152, R153). -/
def Rel.operands : Rel → Operands
  | .short d => .imm8 d
  | .near d => .immV d

/-- The operands of each instruction as its encoding holds them. The /digit forms carry their digit in the reg field;
SETcc ignores the field and writes zero there (R427). -/
def Instr.operands : Instr → Operands
  | .addRm8R8 rm r => .modrm r.code rm
  | .addRmvRv rm r => .modrm r.code rm
  | .addR8Rm8 r rm => .modrm r.code rm
  | .addRvRmv r rm => .modrm r.code rm
  | .addAlImm8 imm => .imm8 imm
  | .addEaxImmv imm => .immV imm
  | .addRm8Imm8 rm imm => .modrmImm8 0 rm imm
  | .addRmvImmv rm imm => .modrmImmV 0 rm imm
  | .addRmvImm8 rm imm => .modrmImm8 0 rm imm
  | .orRm8R8 rm r => .modrm r.code rm
  | .orRmvRv rm r => .modrm r.code rm
  | .orR8Rm8 r rm => .modrm r.code rm
  | .orRvRmv r rm => .modrm r.code rm
  | .orAlImm8 imm => .imm8 imm
  | .orEaxImmv imm => .immV imm
  | .orRm8Imm8 rm imm => .modrmImm8 1 rm imm
  | .orRmvImmv rm imm => .modrmImmV 1 rm imm
  | .orRmvImm8 rm imm => .modrmImm8 1 rm imm
  | .adcRm8R8 rm r => .modrm r.code rm
  | .adcRmvRv rm r => .modrm r.code rm
  | .adcR8Rm8 r rm => .modrm r.code rm
  | .adcRvRmv r rm => .modrm r.code rm
  | .adcAlImm8 imm => .imm8 imm
  | .adcEaxImmv imm => .immV imm
  | .adcRm8Imm8 rm imm => .modrmImm8 2 rm imm
  | .adcRmvImmv rm imm => .modrmImmV 2 rm imm
  | .adcRmvImm8 rm imm => .modrmImm8 2 rm imm
  | .sbbRm8R8 rm r => .modrm r.code rm
  | .sbbRmvRv rm r => .modrm r.code rm
  | .sbbR8Rm8 r rm => .modrm r.code rm
  | .sbbRvRmv r rm => .modrm r.code rm
  | .sbbAlImm8 imm => .imm8 imm
  | .sbbEaxImmv imm => .immV imm
  | .sbbRm8Imm8 rm imm => .modrmImm8 3 rm imm
  | .sbbRmvImmv rm imm => .modrmImmV 3 rm imm
  | .sbbRmvImm8 rm imm => .modrmImm8 3 rm imm
  | .andRm8R8 rm r => .modrm r.code rm
  | .andRmvRv rm r => .modrm r.code rm
  | .andR8Rm8 r rm => .modrm r.code rm
  | .andRvRmv r rm => .modrm r.code rm
  | .andAlImm8 imm => .imm8 imm
  | .andEaxImmv imm => .immV imm
  | .andRm8Imm8 rm imm => .modrmImm8 4 rm imm
  | .andRmvImmv rm imm => .modrmImmV 4 rm imm
  | .andRmvImm8 rm imm => .modrmImm8 4 rm imm
  | .subRm8R8 rm r => .modrm r.code rm
  | .subRmvRv rm r => .modrm r.code rm
  | .subR8Rm8 r rm => .modrm r.code rm
  | .subRvRmv r rm => .modrm r.code rm
  | .subAlImm8 imm => .imm8 imm
  | .subEaxImmv imm => .immV imm
  | .subRm8Imm8 rm imm => .modrmImm8 5 rm imm
  | .subRmvImmv rm imm => .modrmImmV 5 rm imm
  | .subRmvImm8 rm imm => .modrmImm8 5 rm imm
  | .xorRm8R8 rm r => .modrm r.code rm
  | .xorRmvRv rm r => .modrm r.code rm
  | .xorR8Rm8 r rm => .modrm r.code rm
  | .xorRvRmv r rm => .modrm r.code rm
  | .xorAlImm8 imm => .imm8 imm
  | .xorEaxImmv imm => .immV imm
  | .xorRm8Imm8 rm imm => .modrmImm8 6 rm imm
  | .xorRmvImmv rm imm => .modrmImmV 6 rm imm
  | .xorRmvImm8 rm imm => .modrmImm8 6 rm imm
  | .cmpRm8R8 rm r => .modrm r.code rm
  | .cmpRmvRv rm r => .modrm r.code rm
  | .cmpR8Rm8 r rm => .modrm r.code rm
  | .cmpRvRmv r rm => .modrm r.code rm
  | .cmpAlImm8 imm => .imm8 imm
  | .cmpEaxImmv imm => .immV imm
  | .cmpRm8Imm8 rm imm => .modrmImm8 7 rm imm
  | .cmpRmvImmv rm imm => .modrmImmV 7 rm imm
  | .cmpRmvImm8 rm imm => .modrmImm8 7 rm imm
  | .aam imm => .imm8 imm
  | .aad imm => .imm8 imm
  | .incRv r => .plus r
  | .decRv r => .plus r
  | .pushRv r => .plus r
  | .popRv r => .plus r
  | .bound r rm => .modrm r.code rm
  | .arpl rm r => .modrm r.code rm
  | .pushImmv imm => .immV imm
  | .imulRvRmvImmv r rm imm => .modrmImmV r.code rm imm
  | .pushImm8 imm => .imm8 imm
  | .imulRvRmvImm8 r rm imm => .modrmImm8 r.code rm imm
  | .jo rel => rel.operands
  | .jno rel => rel.operands
  | .jb rel => rel.operands
  | .jnb rel => rel.operands
  | .jz rel => rel.operands
  | .jnz rel => rel.operands
  | .jbe rel => rel.operands
  | .jnbe rel => rel.operands
  | .js rel => rel.operands
  | .jns rel => rel.operands
  | .jp rel => rel.operands
  | .jnp rel => rel.operands
  | .jl rel => rel.operands
  | .jnl rel => rel.operands
  | .jle rel => rel.operands
  | .jnle rel => rel.operands
  | .seto rm => .modrm 0 rm
  | .setno rm => .modrm 0 rm
  | .setb rm => .modrm 0 rm
  | .setnb rm => .modrm 0 rm
  | .setz rm => .modrm 0 rm
  | .setnz rm => .modrm 0 rm
  | .setbe rm => .modrm 0 rm
  | .setnbe rm => .modrm 0 rm
  | .sets rm => .modrm 0 rm
  | .setns rm => .modrm 0 rm
  | .setp rm => .modrm 0 rm
  | .setnp rm => .modrm 0 rm
  | .setl rm => .modrm 0 rm
  | .setnl rm => .modrm 0 rm
  | .setle rm => .modrm 0 rm
  | .setnle rm => .modrm 0 rm
  | .testRm8R8 rm r => .modrm r.code rm
  | .testRmvRv rm r => .modrm r.code rm
  | .xchgRm8R8 rm r => .modrm r.code rm
  | .xchgRmvRv rm r => .modrm r.code rm
  | .movRm8R8 rm r => .modrm r.code rm
  | .movRmvRv rm r => .modrm r.code rm
  | .movR8Rm8 r rm => .modrm r.code rm
  | .movRvRmv r rm => .modrm r.code rm
  | .movRmSreg rm code => .modrm code rm
  | .lea r rm => .modrm r.code rm
  | .movSregRm code rm => .modrm code rm
  | .popRmv rm => .modrm 0 rm
  | .xchgEaxRv r => .plus r
  | .callFar off sel => .far off sel
  | .movAlMoffs off => .moffs off
  | .movEaxMoffs off => .moffs off
  | .movMoffsAl off => .moffs off
  | .movMoffsEax off => .moffs off
  | .testAlImm8 imm => .imm8 imm
  | .testEaxImmv imm => .immV imm
  | .movR8Imm8 r imm => .plusImm8 r imm
  | .movRvImmv r imm => .plusImmV r imm
  | .rolRm8 rm count => count.operands 0 rm
  | .rolRmv rm count => count.operands 0 rm
  | .rorRm8 rm count => count.operands 1 rm
  | .rorRmv rm count => count.operands 1 rm
  | .rclRm8 rm count => count.operands 2 rm
  | .rclRmv rm count => count.operands 2 rm
  | .rcrRm8 rm count => count.operands 3 rm
  | .rcrRmv rm count => count.operands 3 rm
  | .shlRm8 rm count => count.operands 4 rm
  | .shlRmv rm count => count.operands 4 rm
  | .shrRm8 rm count => count.operands 5 rm
  | .shrRmv rm count => count.operands 5 rm
  | .sarRm8 rm count => count.operands 7 rm
  | .sarRmv rm count => count.operands 7 rm
  | .retNearImm imm => .imm16 imm
  | .les r rm => .modrm r.code rm
  | .lds r rm => .modrm r.code rm
  | .movRm8Imm8 rm imm => .modrmImm8 0 rm imm
  | .movRmvImmv rm imm => .modrmImmV 0 rm imm
  | .enter size level => .imm16Imm8 size level
  | .retFarImm imm => .imm16 imm
  | .intN imm => .imm8 imm
  | .esc op reg rm => .esc op reg rm
  | .loopneRel8 imm => .imm8 imm
  | .loopeRel8 imm => .imm8 imm
  | .loopRel8 imm => .imm8 imm
  | .jcxzRel8 imm => .imm8 imm
  | .inAlImm8 imm => .imm8 imm
  | .inEaxImm8 imm => .imm8 imm
  | .outImm8Al imm => .imm8 imm
  | .outImm8Eax imm => .imm8 imm
  | .callRelv imm => .immV imm
  | .jmpRelv imm => .immV imm
  | .jmpFar off sel => .far off sel
  | .jmpRel8 imm => .imm8 imm
  | .testRm8Imm8 rm imm => .modrmImm8 0 rm imm
  | .testRmvImmv rm imm => .modrmImmV 0 rm imm
  | .notRm8 rm => .modrm 2 rm
  | .notRmv rm => .modrm 2 rm
  | .negRm8 rm => .modrm 3 rm
  | .negRmv rm => .modrm 3 rm
  | .mulRm8 rm => .modrm 4 rm
  | .mulRmv rm => .modrm 4 rm
  | .imulRm8 rm => .modrm 5 rm
  | .imulRmv rm => .modrm 5 rm
  | .divRm8 rm => .modrm 6 rm
  | .divRmv rm => .modrm 6 rm
  | .idivRm8 rm => .modrm 7 rm
  | .idivRmv rm => .modrm 7 rm
  | .incRm8 rm => .modrm 0 rm
  | .decRm8 rm => .modrm 1 rm
  | .incRmv rm => .modrm 0 rm
  | .decRmv rm => .modrm 1 rm
  | .callRmv rm => .modrm 2 rm
  | .callFarM rm => .modrm 3 rm
  | .jmpRmv rm => .modrm 4 rm
  | .jmpFarM rm => .modrm 5 rm
  | .pushRmv rm => .modrm 6 rm
  | .sldt rm => .modrm 0 rm
  | .str rm => .modrm 1 rm
  | .lldt rm => .modrm 2 rm
  | .ltr rm => .modrm 3 rm
  | .verr rm => .modrm 4 rm
  | .verw rm => .modrm 5 rm
  | .sgdt rm => .modrm 0 rm
  | .sidt rm => .modrm 1 rm
  | .lgdt rm => .modrm 2 rm
  | .lidt rm => .modrm 3 rm
  | .smsw rm => .modrm 4 rm
  | .lmsw rm => .modrm 6 rm
  | .lar r rm => .modrm r.code rm
  | .lsl r rm => .modrm r.code rm
  | .movRCr r code => .special code r
  | .movRDr r code => .special code r
  | .movCrR code r => .special code r
  | .movDrR code r => .special code r
  | .movRTr r code => .special code r
  | .movTrR code r => .special code r
  | .btRmvRv rm r => .modrm r.code rm
  | .shldImm8 rm r imm => .modrmImm8 r.code rm imm
  | .shldCl rm r => .modrm r.code rm
  | .btsRmvRv rm r => .modrm r.code rm
  | .shrdImm8 rm r imm => .modrmImm8 r.code rm imm
  | .shrdCl rm r => .modrm r.code rm
  | .imulRvRmv r rm => .modrm r.code rm
  | .lss r rm => .modrm r.code rm
  | .btrRmvRv rm r => .modrm r.code rm
  | .lfs r rm => .modrm r.code rm
  | .lgs r rm => .modrm r.code rm
  | .movzxRm8 r rm => .modrm r.code rm
  | .movzxRm16 r rm => .modrm r.code rm
  | .btRmvImm8 rm imm => .modrmImm8 4 rm imm
  | .btsRmvImm8 rm imm => .modrmImm8 5 rm imm
  | .btrRmvImm8 rm imm => .modrmImm8 6 rm imm
  | .btcRmvImm8 rm imm => .modrmImm8 7 rm imm
  | .btcRmvRv rm r => .modrm r.code rm
  | .bsf r rm => .modrm r.code rm
  | .bsr r rm => .modrm r.code rm
  | .movsxRm8 r rm => .modrm r.code rm
  | .movsxRm16 r rm => .modrm r.code rm
  | .pushEs => .none
  | .pushCs => .none
  | .pushSs => .none
  | .pushDs => .none
  | .popEs => .none
  | .popSs => .none
  | .popDs => .none
  | .pushFs => .none
  | .popFs => .none
  | .pushGs => .none
  | .popGs => .none
  | .segEs => .none
  | .segCs => .none
  | .segSs => .none
  | .segDs => .none
  | .segFs => .none
  | .segGs => .none
  | .opsize => .none
  | .addrsize => .none
  | .lock => .none
  | .repne => .none
  | .rep => .none
  | .daa => .none
  | .das => .none
  | .aaa => .none
  | .aas => .none
  | .pusha => .none
  | .popa => .none
  | .insB => .none
  | .insV => .none
  | .outsB => .none
  | .outsV => .none
  | .nop => .none
  | .cbw => .none
  | .cwd => .none
  | .wait => .none
  | .pushf => .none
  | .popf => .none
  | .sahf => .none
  | .lahf => .none
  | .movsB => .none
  | .movsV => .none
  | .cmpsB => .none
  | .cmpsV => .none
  | .stosB => .none
  | .stosV => .none
  | .lodsB => .none
  | .lodsV => .none
  | .scasB => .none
  | .scasV => .none
  | .retNear => .none
  | .leave => .none
  | .retFar => .none
  | .int3 => .none
  | .into => .none
  | .iret => .none
  | .xlat => .none
  | .inAlDx => .none
  | .inEaxDx => .none
  | .outDxAl => .none
  | .outDxEax => .none
  | .hlt => .none
  | .cmc => .none
  | .clc => .none
  | .stc => .none
  | .cli => .none
  | .sti => .none
  | .cld => .none
  | .std => .none
  | .clts => .none

/-- The instruction has an encoding under these size attributes. Its operands fit them, and it is not
`XCHG eAX,eAX`, whose byte 90 is NOP's row (R160, R369). -/
def Instr.wellFormed (os as : Size) (i : Instr) : Bool :=
  i.operands.wf os as && i != .xchgEaxRv .eax

end Sys2Proof
end

