-- ==== Sys2Proof/Decode.lean ====
section
/-! DEFINITION. Decode.lean: reading one row of the opcode table from bytes, writing it back, and the table itself. -/

namespace Sys2Proof

/-- What the decoder makes of the bytes at the instruction pointer: an instruction and the bytes after it, an encoding
the table does not assign (R155, treated as #UD by the step), or too few bytes to tell. -/
inductive Decoded where
  | ok (i : Instr) (rest : List Byte)
  | undefinedOpcode
  | truncated
deriving DecidableEq, Repr

/-- The register with a three-bit code (R31). -/
def Reg.ofCode (c : BitVec 3) : Reg :=
  match c.toNat with
  | 0 => .eax | 1 => .ecx | 2 => .edx | 3 => .ebx | 4 => .esp | 5 => .ebp | 6 => .esi | _ => .edi

/-- The 16-bit base registers that r/m selects (R145). -/
def Base16.ofCode (c : BitVec 3) : Base16 :=
  match c.toNat with
  | 0 => .bxsi | 1 => .bxdi | 2 => .bpsi | 3 => .bpdi | 4 => .si | 5 => .di | 6 => .bp | _ => .bx

/-- The r/m code of the 16-bit base registers (R145). -/
def Base16.code : Base16 → BitVec 3
  | .bxsi => 0 | .bxdi => 1 | .bpsi => 2 | .bpdi => 3 | .si => 4 | .di => 5 | .bp => 6 | .bx => 7

/-- Bits 7:6 of a ModR/M or SIB byte (R144, R147). -/
def modField (b : Byte) : BitVec 2 := b.extractLsb' 6 2

/-- Bits 5:3 of a ModR/M or SIB byte (R144, R147). -/
def regField (b : Byte) : BitVec 3 := b.extractLsb' 3 3

/-- Bits 2:0 of a ModR/M or SIB byte (R144, R147). -/
def rmField (b : Byte) : BitVec 3 := b.extractLsb' 0 3

/-- The byte with the three fields (R144, R147). -/
def fieldsByte (hi : BitVec 2) (mid lo : BitVec 3) : Byte := hi ++ mid ++ lo

/-- What a parser answers: a value and the bytes after it, or nothing where the bytes end. -/
abbrev Parsed (α : Type) := Option (α × List Byte)

/-- One byte. -/
def take8 : List Byte → Parsed Byte
  | b :: t => some (b, t)
  | _ => none

/-- A word, low-order byte first (R149). -/
def take16 : List Byte → Parsed (BitVec 16)
  | b0 :: b1 :: t => some (b1 ++ b0, t)
  | _ => none

/-- A doubleword, low-order byte first (R149). -/
def take32 : List Byte → Parsed (BitVec 32)
  | b0 :: b1 :: b2 :: b3 :: t => some (b3 ++ b2 ++ b1 ++ b0, t)
  | _ => none

/-- A field of the size attribute's width. -/
def takeV (sz : Size) (bs : List Byte) : Parsed VImm :=
  match sz with
  | .s16 => (take16 bs).map fun p => (.w16 p.1, p.2)
  | .s32 => (take32 bs).map fun p => (.w32 p.1, p.2)

/-- The displacement that mod 00, 01 or 10 selects in 16-bit addressing (R145). -/
def takeDisp16 (mod : BitVec 2) (bs : List Byte) : Parsed (Disp 16) :=
  match mod.toNat with
  | 0 => some (.none, bs)
  | 1 => (take8 bs).map fun p => (.short p.1, p.2)
  | _ => (take16 bs).map fun p => (.full p.1, p.2)

/-- The displacement that mod 00, 01 or 10 selects in 32-bit addressing (R146). -/
def takeDisp32 (mod : BitVec 2) (bs : List Byte) : Parsed (Disp 32) :=
  match mod.toNat with
  | 0 => some (.none, bs)
  | 1 => (take8 bs).map fun p => (.short p.1, p.2)
  | _ => (take32 bs).map fun p => (.full p.1, p.2)

/-- The 16-bit addressing forms (R145). -/
def takeEA16 (mod : BitVec 2) (rm : BitVec 3) (bs : List Byte) : Parsed EA :=
  if mod = 0 ∧ rm = 6 then (take16 bs).map fun p => (.a16abs p.1, p.2)
  else (takeDisp16 mod bs).map fun p => (.a16 (Base16.ofCode rm) p.1, p.2)

/-- The index that a SIB byte names; code 100 is no index (R147). -/
def indexOf (b : Byte) : Option Reg := if regField b = 4 then none else some (Reg.ofCode (regField b))

/-- The forms with a SIB byte (R147). -/
def takeSib (mod : BitVec 2) (bs : List Byte) : Parsed EA :=
  match bs with
  | [] => none
  | b :: t =>
    if mod = 0 ∧ rmField b = 5 then (take32 t).map fun p => (.sibNoBase (modField b) (indexOf b) p.1, p.2)
    else (takeDisp32 mod t).map fun p => (.sib (modField b) (indexOf b) (Reg.ofCode (rmField b)) p.1, p.2)

/-- The 32-bit addressing forms (R146). -/
def takeEA32 (mod : BitVec 2) (rm : BitVec 3) (bs : List Byte) : Parsed EA :=
  if rm = 4 then takeSib mod bs
  else if mod = 0 ∧ rm = 5 then (take32 bs).map fun p => (.a32abs p.1, p.2)
  else (takeDisp32 mod bs).map fun p => (.a32 (Reg.ofCode rm) p.1, p.2)

/-- The operand that mod and r/m of the ModR/M byte `m` select, with its SIB byte and displacement (R144). -/
def takeRM (as : Size) (m : Byte) (bs : List Byte) : Parsed RM :=
  if modField m = 3 then some (.reg (Reg.ofCode (rmField m)), bs)
  else match as with
    | .s16 => (takeEA16 (modField m) (rmField m) bs).map fun p => (.mem p.1, p.2)
    | .s32 => (takeEA32 (modField m) (rmField m) bs).map fun p => (.mem p.1, p.2)

/-- A ModR/M byte and its operand: the reg field and the r/m operand. -/
def takeModRM (as : Size) (bs : List Byte) : Parsed (BitVec 3 × RM) :=
  match bs with
  | [] => none
  | m :: t => (takeRM as m t).map fun p => ((regField m, p.1), p.2)

/-- How a row's operands lie after its opcode (R156). -/
inductive Shape where
  | none | plus | plusImm8 | plusImmV | modrm | modrmImm8 | modrmImmV | imm8 | imm16 | immV | imm16Imm8
  | moffs | far | special | esc
deriving DecidableEq, Repr

/-- Reads the operands of a shape: `op` is the last opcode byte, whose low three bits may be an operand (R150). -/
def takeOperands (os as : Size) (op : Byte) (sh : Shape) (bs : List Byte) : Parsed Operands :=
  match sh with
  | .none => some (.none, bs)
  | .plus => some (.plus (Reg.ofCode (rmField op)), bs)
  | .plusImm8 => (take8 bs).map fun p => (.plusImm8 (Reg.ofCode (rmField op)) p.1, p.2)
  | .plusImmV => (takeV os bs).map fun p => (.plusImmV (Reg.ofCode (rmField op)) p.1, p.2)
  | .modrm => (takeModRM as bs).map fun p => (.modrm p.1.1 p.1.2, p.2)
  | .modrmImm8 => (takeModRM as bs).bind fun p => (take8 p.2).map fun q => (.modrmImm8 p.1.1 p.1.2 q.1, q.2)
  | .modrmImmV => (takeModRM as bs).bind fun p => (takeV os p.2).map fun q => (.modrmImmV p.1.1 p.1.2 q.1, q.2)
  | .imm8 => (take8 bs).map fun p => (.imm8 p.1, p.2)
  | .imm16 => (take16 bs).map fun p => (.imm16 p.1, p.2)
  | .immV => (takeV os bs).map fun p => (.immV p.1, p.2)
  | .imm16Imm8 => (take16 bs).bind fun p => (take8 p.2).map fun q => (.imm16Imm8 p.1 q.1, q.2)
  | .moffs => (takeV as bs).map fun p => (.moffs p.1, p.2)
  | .far => (takeV os bs).bind fun p => (take16 p.2).map fun q => (.far p.1 q.1, q.2)
  | .special => (take8 bs).map fun p => (.special (regField p.1) (Reg.ofCode (rmField p.1)), p.2)
  | .esc => (takeModRM as bs).map fun p => (.esc (rmField op) p.1.1 p.1.2, p.2)

/-- A row of the opcode table (R160): the opcode byte under a mask, the digit of a /digit form, the shape of the
operands, and the instruction they make. -/
structure OpRow where
  code : Byte
  mask : Byte
  digit : Option (BitVec 3)
  shape : Shape
  build : Operands → Option Instr

/-- The row is the one of opcode byte `op`, where the byte after it has reg field `reg`. -/
def OpRow.applies (r : OpRow) (op : Byte) (reg : Option (BitVec 3)) : Bool :=
  op &&& r.mask == r.code && (r.digit.isNone || r.digit == reg)

/-- The instruction `f` of these operands. -/
def bNone (f : Instr) : Operands → Option Instr
  | .none => some (f)
  | _ => none

/-- The instruction `f` of these operands. -/
def bPlus (f : Reg → Instr) : Operands → Option Instr
  | .plus r => some (f r)
  | _ => none

/-- The instruction `f` of these operands. -/
def bPlusImm8 (f : Reg → BitVec 8 → Instr) : Operands → Option Instr
  | .plusImm8 r i => some (f r i)
  | _ => none

/-- The instruction `f` of these operands. -/
def bPlusImmV (f : Reg → VImm → Instr) : Operands → Option Instr
  | .plusImmV r i => some (f r i)
  | _ => none

/-- The instruction `f` of these operands. -/
def bRm (f : RM → Instr) : Operands → Option Instr
  | .modrm _ rm => some (f rm)
  | _ => none

/-- The instruction `f` of these operands. -/
def bRmR (f : RM → Reg → Instr) : Operands → Option Instr
  | .modrm g rm => some (f rm (Reg.ofCode g))
  | _ => none

/-- The instruction `f` of these operands. -/
def bRRm (f : Reg → RM → Instr) : Operands → Option Instr
  | .modrm g rm => some (f (Reg.ofCode g) rm)
  | _ => none

/-- The instruction `f` of these operands. -/
def bRmImm8 (f : RM → BitVec 8 → Instr) : Operands → Option Instr
  | .modrmImm8 _ rm i => some (f rm i)
  | _ => none

/-- The instruction `f` of these operands. -/
def bRmImmV (f : RM → VImm → Instr) : Operands → Option Instr
  | .modrmImmV _ rm i => some (f rm i)
  | _ => none

/-- The instruction `f` of these operands. -/
def bRRmImm8 (f : Reg → RM → BitVec 8 → Instr) : Operands → Option Instr
  | .modrmImm8 g rm i => some (f (Reg.ofCode g) rm i)
  | _ => none

/-- The instruction `f` of these operands. -/
def bRRmImmV (f : Reg → RM → VImm → Instr) : Operands → Option Instr
  | .modrmImmV g rm i => some (f (Reg.ofCode g) rm i)
  | _ => none

/-- The instruction `f` of these operands. -/
def bRmRImm8 (f : RM → Reg → BitVec 8 → Instr) : Operands → Option Instr
  | .modrmImm8 g rm i => some (f rm (Reg.ofCode g) i)
  | _ => none

/-- The instruction `f` of these operands. -/
def bRmCode (f : RM → BitVec 3 → Instr) : Operands → Option Instr
  | .modrm g rm => some (f rm g)
  | _ => none

/-- The instruction `f` of these operands. -/
def bCodeRm (f : BitVec 3 → RM → Instr) : Operands → Option Instr
  | .modrm g rm => some (f g rm)
  | _ => none

/-- The instruction `f` of these operands. -/
def bImm8 (f : BitVec 8 → Instr) : Operands → Option Instr
  | .imm8 i => some (f i)
  | _ => none

/-- The instruction `f` of these operands. -/
def bImm16 (f : BitVec 16 → Instr) : Operands → Option Instr
  | .imm16 i => some (f i)
  | _ => none

/-- The instruction `f` of these operands. -/
def bImmV (f : VImm → Instr) : Operands → Option Instr
  | .immV i => some (f i)
  | _ => none

/-- The instruction `f` of these operands. -/
def bEnter (f : BitVec 16 → BitVec 8 → Instr) : Operands → Option Instr
  | .imm16Imm8 i j => some (f i j)
  | _ => none

/-- The instruction `f` of these operands. -/
def bMoffs (f : VImm → Instr) : Operands → Option Instr
  | .moffs o => some (f o)
  | _ => none

/-- The instruction `f` of these operands. -/
def bFar (f : VImm → BitVec 16 → Instr) : Operands → Option Instr
  | .far o s => some (f o s)
  | _ => none

/-- The instruction `f` of these operands. -/
def bSpecialRd (f : Reg → BitVec 3 → Instr) : Operands → Option Instr
  | .special g r => some (f r g)
  | _ => none

/-- The instruction `f` of these operands. -/
def bSpecialWr (f : BitVec 3 → Reg → Instr) : Operands → Option Instr
  | .special g r => some (f g r)
  | _ => none

/-- The instruction `f` of these operands. -/
def bEsc (f : BitVec 3 → BitVec 3 → RM → Instr) : Operands → Option Instr
  | .esc op g rm => some (f op g rm)
  | _ => none

/-- The one-byte opcode map (R152, R154), opcodes 00 to 18. -/
def oneByteRowsPart0 : List OpRow :=
  [⟨0x00, 0xFF, none, .modrm, bRmR .addRm8R8⟩,
   ⟨0x01, 0xFF, none, .modrm, bRmR .addRmvRv⟩,
   ⟨0x02, 0xFF, none, .modrm, bRRm .addR8Rm8⟩,
   ⟨0x03, 0xFF, none, .modrm, bRRm .addRvRmv⟩,
   ⟨0x04, 0xFF, none, .imm8, bImm8 .addAlImm8⟩,
   ⟨0x05, 0xFF, none, .immV, bImmV .addEaxImmv⟩,
   ⟨0x06, 0xFF, none, .none, bNone .pushEs⟩,
   ⟨0x07, 0xFF, none, .none, bNone .popEs⟩,
   ⟨0x08, 0xFF, none, .modrm, bRmR .orRm8R8⟩,
   ⟨0x09, 0xFF, none, .modrm, bRmR .orRmvRv⟩,
   ⟨0x0A, 0xFF, none, .modrm, bRRm .orR8Rm8⟩,
   ⟨0x0B, 0xFF, none, .modrm, bRRm .orRvRmv⟩,
   ⟨0x0C, 0xFF, none, .imm8, bImm8 .orAlImm8⟩,
   ⟨0x0D, 0xFF, none, .immV, bImmV .orEaxImmv⟩,
   ⟨0x0E, 0xFF, none, .none, bNone .pushCs⟩,
   ⟨0x10, 0xFF, none, .modrm, bRmR .adcRm8R8⟩,
   ⟨0x11, 0xFF, none, .modrm, bRmR .adcRmvRv⟩,
   ⟨0x12, 0xFF, none, .modrm, bRRm .adcR8Rm8⟩,
   ⟨0x13, 0xFF, none, .modrm, bRRm .adcRvRmv⟩,
   ⟨0x14, 0xFF, none, .imm8, bImm8 .adcAlImm8⟩,
   ⟨0x15, 0xFF, none, .immV, bImmV .adcEaxImmv⟩,
   ⟨0x16, 0xFF, none, .none, bNone .pushSs⟩,
   ⟨0x17, 0xFF, none, .none, bNone .popSs⟩,
   ⟨0x18, 0xFF, none, .modrm, bRmR .sbbRm8R8⟩]

/-- The one-byte opcode map (R152, R154), opcodes 19 to 30. -/
def oneByteRowsPart1 : List OpRow :=
  [⟨0x19, 0xFF, none, .modrm, bRmR .sbbRmvRv⟩,
   ⟨0x1A, 0xFF, none, .modrm, bRRm .sbbR8Rm8⟩,
   ⟨0x1B, 0xFF, none, .modrm, bRRm .sbbRvRmv⟩,
   ⟨0x1C, 0xFF, none, .imm8, bImm8 .sbbAlImm8⟩,
   ⟨0x1D, 0xFF, none, .immV, bImmV .sbbEaxImmv⟩,
   ⟨0x1E, 0xFF, none, .none, bNone .pushDs⟩,
   ⟨0x1F, 0xFF, none, .none, bNone .popDs⟩,
   ⟨0x20, 0xFF, none, .modrm, bRmR .andRm8R8⟩,
   ⟨0x21, 0xFF, none, .modrm, bRmR .andRmvRv⟩,
   ⟨0x22, 0xFF, none, .modrm, bRRm .andR8Rm8⟩,
   ⟨0x23, 0xFF, none, .modrm, bRRm .andRvRmv⟩,
   ⟨0x24, 0xFF, none, .imm8, bImm8 .andAlImm8⟩,
   ⟨0x25, 0xFF, none, .immV, bImmV .andEaxImmv⟩,
   ⟨0x26, 0xFF, none, .none, bNone .segEs⟩,
   ⟨0x27, 0xFF, none, .none, bNone .daa⟩,
   ⟨0x28, 0xFF, none, .modrm, bRmR .subRm8R8⟩,
   ⟨0x29, 0xFF, none, .modrm, bRmR .subRmvRv⟩,
   ⟨0x2A, 0xFF, none, .modrm, bRRm .subR8Rm8⟩,
   ⟨0x2B, 0xFF, none, .modrm, bRRm .subRvRmv⟩,
   ⟨0x2C, 0xFF, none, .imm8, bImm8 .subAlImm8⟩,
   ⟨0x2D, 0xFF, none, .immV, bImmV .subEaxImmv⟩,
   ⟨0x2E, 0xFF, none, .none, bNone .segCs⟩,
   ⟨0x2F, 0xFF, none, .none, bNone .das⟩,
   ⟨0x30, 0xFF, none, .modrm, bRmR .xorRm8R8⟩]

/-- The one-byte opcode map (R152, R154), opcodes 31 to 64. -/
def oneByteRowsPart2 : List OpRow :=
  [⟨0x31, 0xFF, none, .modrm, bRmR .xorRmvRv⟩,
   ⟨0x32, 0xFF, none, .modrm, bRRm .xorR8Rm8⟩,
   ⟨0x33, 0xFF, none, .modrm, bRRm .xorRvRmv⟩,
   ⟨0x34, 0xFF, none, .imm8, bImm8 .xorAlImm8⟩,
   ⟨0x35, 0xFF, none, .immV, bImmV .xorEaxImmv⟩,
   ⟨0x36, 0xFF, none, .none, bNone .segSs⟩,
   ⟨0x37, 0xFF, none, .none, bNone .aaa⟩,
   ⟨0x38, 0xFF, none, .modrm, bRmR .cmpRm8R8⟩,
   ⟨0x39, 0xFF, none, .modrm, bRmR .cmpRmvRv⟩,
   ⟨0x3A, 0xFF, none, .modrm, bRRm .cmpR8Rm8⟩,
   ⟨0x3B, 0xFF, none, .modrm, bRRm .cmpRvRmv⟩,
   ⟨0x3C, 0xFF, none, .imm8, bImm8 .cmpAlImm8⟩,
   ⟨0x3D, 0xFF, none, .immV, bImmV .cmpEaxImmv⟩,
   ⟨0x3E, 0xFF, none, .none, bNone .segDs⟩,
   ⟨0x3F, 0xFF, none, .none, bNone .aas⟩,
   ⟨0x40, 0xF8, none, .plus, bPlus .incRv⟩,
   ⟨0x48, 0xF8, none, .plus, bPlus .decRv⟩,
   ⟨0x50, 0xF8, none, .plus, bPlus .pushRv⟩,
   ⟨0x58, 0xF8, none, .plus, bPlus .popRv⟩,
   ⟨0x60, 0xFF, none, .none, bNone .pusha⟩,
   ⟨0x61, 0xFF, none, .none, bNone .popa⟩,
   ⟨0x62, 0xFF, none, .modrm, bRRm .bound⟩,
   ⟨0x63, 0xFF, none, .modrm, bRmR .arpl⟩,
   ⟨0x64, 0xFF, none, .none, bNone .segFs⟩]

/-- The one-byte opcode map (R152, R154), opcodes 65 to 7C. -/
def oneByteRowsPart3 : List OpRow :=
  [⟨0x65, 0xFF, none, .none, bNone .segGs⟩,
   ⟨0x66, 0xFF, none, .none, bNone .opsize⟩,
   ⟨0x67, 0xFF, none, .none, bNone .addrsize⟩,
   ⟨0x68, 0xFF, none, .immV, bImmV .pushImmv⟩,
   ⟨0x69, 0xFF, none, .modrmImmV, bRRmImmV .imulRvRmvImmv⟩,
   ⟨0x6A, 0xFF, none, .imm8, bImm8 .pushImm8⟩,
   ⟨0x6B, 0xFF, none, .modrmImm8, bRRmImm8 .imulRvRmvImm8⟩,
   ⟨0x6C, 0xFF, none, .none, bNone .insB⟩,
   ⟨0x6D, 0xFF, none, .none, bNone .insV⟩,
   ⟨0x6E, 0xFF, none, .none, bNone .outsB⟩,
   ⟨0x6F, 0xFF, none, .none, bNone .outsV⟩,
   ⟨0x70, 0xFF, none, .imm8, bImm8 (fun d => .jo (.short d))⟩,
   ⟨0x71, 0xFF, none, .imm8, bImm8 (fun d => .jno (.short d))⟩,
   ⟨0x72, 0xFF, none, .imm8, bImm8 (fun d => .jb (.short d))⟩,
   ⟨0x73, 0xFF, none, .imm8, bImm8 (fun d => .jnb (.short d))⟩,
   ⟨0x74, 0xFF, none, .imm8, bImm8 (fun d => .jz (.short d))⟩,
   ⟨0x75, 0xFF, none, .imm8, bImm8 (fun d => .jnz (.short d))⟩,
   ⟨0x76, 0xFF, none, .imm8, bImm8 (fun d => .jbe (.short d))⟩,
   ⟨0x77, 0xFF, none, .imm8, bImm8 (fun d => .jnbe (.short d))⟩,
   ⟨0x78, 0xFF, none, .imm8, bImm8 (fun d => .js (.short d))⟩,
   ⟨0x79, 0xFF, none, .imm8, bImm8 (fun d => .jns (.short d))⟩,
   ⟨0x7A, 0xFF, none, .imm8, bImm8 (fun d => .jp (.short d))⟩,
   ⟨0x7B, 0xFF, none, .imm8, bImm8 (fun d => .jnp (.short d))⟩,
   ⟨0x7C, 0xFF, none, .imm8, bImm8 (fun d => .jl (.short d))⟩]

/-- The one-byte opcode map (R152, R154), opcodes 7D to 83. -/
def oneByteRowsPart4 : List OpRow :=
  [⟨0x7D, 0xFF, none, .imm8, bImm8 (fun d => .jnl (.short d))⟩,
   ⟨0x7E, 0xFF, none, .imm8, bImm8 (fun d => .jle (.short d))⟩,
   ⟨0x7F, 0xFF, none, .imm8, bImm8 (fun d => .jnle (.short d))⟩,
   ⟨0x80, 0xFF, (some 0), .modrmImm8, bRmImm8 .addRm8Imm8⟩,
   ⟨0x80, 0xFF, (some 1), .modrmImm8, bRmImm8 .orRm8Imm8⟩,
   ⟨0x80, 0xFF, (some 2), .modrmImm8, bRmImm8 .adcRm8Imm8⟩,
   ⟨0x80, 0xFF, (some 3), .modrmImm8, bRmImm8 .sbbRm8Imm8⟩,
   ⟨0x80, 0xFF, (some 4), .modrmImm8, bRmImm8 .andRm8Imm8⟩,
   ⟨0x80, 0xFF, (some 5), .modrmImm8, bRmImm8 .subRm8Imm8⟩,
   ⟨0x80, 0xFF, (some 6), .modrmImm8, bRmImm8 .xorRm8Imm8⟩,
   ⟨0x80, 0xFF, (some 7), .modrmImm8, bRmImm8 .cmpRm8Imm8⟩,
   ⟨0x81, 0xFF, (some 0), .modrmImmV, bRmImmV .addRmvImmv⟩,
   ⟨0x81, 0xFF, (some 1), .modrmImmV, bRmImmV .orRmvImmv⟩,
   ⟨0x81, 0xFF, (some 2), .modrmImmV, bRmImmV .adcRmvImmv⟩,
   ⟨0x81, 0xFF, (some 3), .modrmImmV, bRmImmV .sbbRmvImmv⟩,
   ⟨0x81, 0xFF, (some 4), .modrmImmV, bRmImmV .andRmvImmv⟩,
   ⟨0x81, 0xFF, (some 5), .modrmImmV, bRmImmV .subRmvImmv⟩,
   ⟨0x81, 0xFF, (some 6), .modrmImmV, bRmImmV .xorRmvImmv⟩,
   ⟨0x81, 0xFF, (some 7), .modrmImmV, bRmImmV .cmpRmvImmv⟩,
   ⟨0x83, 0xFF, (some 0), .modrmImm8, bRmImm8 .addRmvImm8⟩,
   ⟨0x83, 0xFF, (some 1), .modrmImm8, bRmImm8 .orRmvImm8⟩,
   ⟨0x83, 0xFF, (some 2), .modrmImm8, bRmImm8 .adcRmvImm8⟩,
   ⟨0x83, 0xFF, (some 3), .modrmImm8, bRmImm8 .sbbRmvImm8⟩,
   ⟨0x83, 0xFF, (some 4), .modrmImm8, bRmImm8 .andRmvImm8⟩]

/-- The one-byte opcode map (R152, R154), opcodes 83 to 9E. -/
def oneByteRowsPart5 : List OpRow :=
  [⟨0x83, 0xFF, (some 5), .modrmImm8, bRmImm8 .subRmvImm8⟩,
   ⟨0x83, 0xFF, (some 6), .modrmImm8, bRmImm8 .xorRmvImm8⟩,
   ⟨0x83, 0xFF, (some 7), .modrmImm8, bRmImm8 .cmpRmvImm8⟩,
   ⟨0x84, 0xFF, none, .modrm, bRmR .testRm8R8⟩,
   ⟨0x85, 0xFF, none, .modrm, bRmR .testRmvRv⟩,
   ⟨0x86, 0xFF, none, .modrm, bRmR .xchgRm8R8⟩,
   ⟨0x87, 0xFF, none, .modrm, bRmR .xchgRmvRv⟩,
   ⟨0x88, 0xFF, none, .modrm, bRmR .movRm8R8⟩,
   ⟨0x89, 0xFF, none, .modrm, bRmR .movRmvRv⟩,
   ⟨0x8A, 0xFF, none, .modrm, bRRm .movR8Rm8⟩,
   ⟨0x8B, 0xFF, none, .modrm, bRRm .movRvRmv⟩,
   ⟨0x8C, 0xFF, none, .modrm, bRmCode .movRmSreg⟩,
   ⟨0x8D, 0xFF, none, .modrm, bRRm .lea⟩,
   ⟨0x8E, 0xFF, none, .modrm, bCodeRm .movSregRm⟩,
   ⟨0x8F, 0xFF, (some 0), .modrm, bRm .popRmv⟩,
   ⟨0x90, 0xFF, none, .none, bNone .nop⟩,
   ⟨0x90, 0xF8, none, .plus, bPlus .xchgEaxRv⟩,
   ⟨0x98, 0xFF, none, .none, bNone .cbw⟩,
   ⟨0x99, 0xFF, none, .none, bNone .cwd⟩,
   ⟨0x9A, 0xFF, none, .far, bFar .callFar⟩,
   ⟨0x9B, 0xFF, none, .none, bNone .wait⟩,
   ⟨0x9C, 0xFF, none, .none, bNone .pushf⟩,
   ⟨0x9D, 0xFF, none, .none, bNone .popf⟩,
   ⟨0x9E, 0xFF, none, .none, bNone .sahf⟩]

/-- The one-byte opcode map (R152, R154), opcodes 9F to C0. -/
def oneByteRowsPart6 : List OpRow :=
  [⟨0x9F, 0xFF, none, .none, bNone .lahf⟩,
   ⟨0xA0, 0xFF, none, .moffs, bMoffs .movAlMoffs⟩,
   ⟨0xA1, 0xFF, none, .moffs, bMoffs .movEaxMoffs⟩,
   ⟨0xA2, 0xFF, none, .moffs, bMoffs .movMoffsAl⟩,
   ⟨0xA3, 0xFF, none, .moffs, bMoffs .movMoffsEax⟩,
   ⟨0xA4, 0xFF, none, .none, bNone .movsB⟩,
   ⟨0xA5, 0xFF, none, .none, bNone .movsV⟩,
   ⟨0xA6, 0xFF, none, .none, bNone .cmpsB⟩,
   ⟨0xA7, 0xFF, none, .none, bNone .cmpsV⟩,
   ⟨0xA8, 0xFF, none, .imm8, bImm8 .testAlImm8⟩,
   ⟨0xA9, 0xFF, none, .immV, bImmV .testEaxImmv⟩,
   ⟨0xAA, 0xFF, none, .none, bNone .stosB⟩,
   ⟨0xAB, 0xFF, none, .none, bNone .stosV⟩,
   ⟨0xAC, 0xFF, none, .none, bNone .lodsB⟩,
   ⟨0xAD, 0xFF, none, .none, bNone .lodsV⟩,
   ⟨0xAE, 0xFF, none, .none, bNone .scasB⟩,
   ⟨0xAF, 0xFF, none, .none, bNone .scasV⟩,
   ⟨0xB0, 0xF8, none, .plusImm8, bPlusImm8 .movR8Imm8⟩,
   ⟨0xB8, 0xF8, none, .plusImmV, bPlusImmV .movRvImmv⟩,
   ⟨0xC0, 0xFF, (some 0), .modrmImm8, bRmImm8 (fun rm n => .rolRm8 rm (.imm n))⟩,
   ⟨0xC0, 0xFF, (some 1), .modrmImm8, bRmImm8 (fun rm n => .rorRm8 rm (.imm n))⟩,
   ⟨0xC0, 0xFF, (some 2), .modrmImm8, bRmImm8 (fun rm n => .rclRm8 rm (.imm n))⟩,
   ⟨0xC0, 0xFF, (some 3), .modrmImm8, bRmImm8 (fun rm n => .rcrRm8 rm (.imm n))⟩,
   ⟨0xC0, 0xFF, (some 4), .modrmImm8, bRmImm8 (fun rm n => .shlRm8 rm (.imm n))⟩]

/-- The one-byte opcode map (R152, R154), opcodes C0 to D0. -/
def oneByteRowsPart7 : List OpRow :=
  [⟨0xC0, 0xFF, (some 5), .modrmImm8, bRmImm8 (fun rm n => .shrRm8 rm (.imm n))⟩,
   ⟨0xC0, 0xFF, (some 7), .modrmImm8, bRmImm8 (fun rm n => .sarRm8 rm (.imm n))⟩,
   ⟨0xC1, 0xFF, (some 0), .modrmImm8, bRmImm8 (fun rm n => .rolRmv rm (.imm n))⟩,
   ⟨0xC1, 0xFF, (some 1), .modrmImm8, bRmImm8 (fun rm n => .rorRmv rm (.imm n))⟩,
   ⟨0xC1, 0xFF, (some 2), .modrmImm8, bRmImm8 (fun rm n => .rclRmv rm (.imm n))⟩,
   ⟨0xC1, 0xFF, (some 3), .modrmImm8, bRmImm8 (fun rm n => .rcrRmv rm (.imm n))⟩,
   ⟨0xC1, 0xFF, (some 4), .modrmImm8, bRmImm8 (fun rm n => .shlRmv rm (.imm n))⟩,
   ⟨0xC1, 0xFF, (some 5), .modrmImm8, bRmImm8 (fun rm n => .shrRmv rm (.imm n))⟩,
   ⟨0xC1, 0xFF, (some 7), .modrmImm8, bRmImm8 (fun rm n => .sarRmv rm (.imm n))⟩,
   ⟨0xC2, 0xFF, none, .imm16, bImm16 .retNearImm⟩,
   ⟨0xC3, 0xFF, none, .none, bNone .retNear⟩,
   ⟨0xC4, 0xFF, none, .modrm, bRRm .les⟩,
   ⟨0xC5, 0xFF, none, .modrm, bRRm .lds⟩,
   ⟨0xC6, 0xFF, (some 0), .modrmImm8, bRmImm8 .movRm8Imm8⟩,
   ⟨0xC7, 0xFF, (some 0), .modrmImmV, bRmImmV .movRmvImmv⟩,
   ⟨0xC8, 0xFF, none, .imm16Imm8, bEnter .enter⟩,
   ⟨0xC9, 0xFF, none, .none, bNone .leave⟩,
   ⟨0xCA, 0xFF, none, .imm16, bImm16 .retFarImm⟩,
   ⟨0xCB, 0xFF, none, .none, bNone .retFar⟩,
   ⟨0xCC, 0xFF, none, .none, bNone .int3⟩,
   ⟨0xCD, 0xFF, none, .imm8, bImm8 .intN⟩,
   ⟨0xCE, 0xFF, none, .none, bNone .into⟩,
   ⟨0xCF, 0xFF, none, .none, bNone .iret⟩,
   ⟨0xD0, 0xFF, (some 0), .modrm, bRm (fun rm => .rolRm8 rm .one)⟩]

/-- The one-byte opcode map (R152, R154), opcodes D0 to D3. -/
def oneByteRowsPart8 : List OpRow :=
  [⟨0xD0, 0xFF, (some 1), .modrm, bRm (fun rm => .rorRm8 rm .one)⟩,
   ⟨0xD0, 0xFF, (some 2), .modrm, bRm (fun rm => .rclRm8 rm .one)⟩,
   ⟨0xD0, 0xFF, (some 3), .modrm, bRm (fun rm => .rcrRm8 rm .one)⟩,
   ⟨0xD0, 0xFF, (some 4), .modrm, bRm (fun rm => .shlRm8 rm .one)⟩,
   ⟨0xD0, 0xFF, (some 5), .modrm, bRm (fun rm => .shrRm8 rm .one)⟩,
   ⟨0xD0, 0xFF, (some 7), .modrm, bRm (fun rm => .sarRm8 rm .one)⟩,
   ⟨0xD1, 0xFF, (some 0), .modrm, bRm (fun rm => .rolRmv rm .one)⟩,
   ⟨0xD1, 0xFF, (some 1), .modrm, bRm (fun rm => .rorRmv rm .one)⟩,
   ⟨0xD1, 0xFF, (some 2), .modrm, bRm (fun rm => .rclRmv rm .one)⟩,
   ⟨0xD1, 0xFF, (some 3), .modrm, bRm (fun rm => .rcrRmv rm .one)⟩,
   ⟨0xD1, 0xFF, (some 4), .modrm, bRm (fun rm => .shlRmv rm .one)⟩,
   ⟨0xD1, 0xFF, (some 5), .modrm, bRm (fun rm => .shrRmv rm .one)⟩,
   ⟨0xD1, 0xFF, (some 7), .modrm, bRm (fun rm => .sarRmv rm .one)⟩,
   ⟨0xD2, 0xFF, (some 0), .modrm, bRm (fun rm => .rolRm8 rm .cl)⟩,
   ⟨0xD2, 0xFF, (some 1), .modrm, bRm (fun rm => .rorRm8 rm .cl)⟩,
   ⟨0xD2, 0xFF, (some 2), .modrm, bRm (fun rm => .rclRm8 rm .cl)⟩,
   ⟨0xD2, 0xFF, (some 3), .modrm, bRm (fun rm => .rcrRm8 rm .cl)⟩,
   ⟨0xD2, 0xFF, (some 4), .modrm, bRm (fun rm => .shlRm8 rm .cl)⟩,
   ⟨0xD2, 0xFF, (some 5), .modrm, bRm (fun rm => .shrRm8 rm .cl)⟩,
   ⟨0xD2, 0xFF, (some 7), .modrm, bRm (fun rm => .sarRm8 rm .cl)⟩,
   ⟨0xD3, 0xFF, (some 0), .modrm, bRm (fun rm => .rolRmv rm .cl)⟩,
   ⟨0xD3, 0xFF, (some 1), .modrm, bRm (fun rm => .rorRmv rm .cl)⟩,
   ⟨0xD3, 0xFF, (some 2), .modrm, bRm (fun rm => .rclRmv rm .cl)⟩,
   ⟨0xD3, 0xFF, (some 3), .modrm, bRm (fun rm => .rcrRmv rm .cl)⟩]

/-- The one-byte opcode map (R152, R154), opcodes D3 to F0. -/
def oneByteRowsPart9 : List OpRow :=
  [⟨0xD3, 0xFF, (some 4), .modrm, bRm (fun rm => .shlRmv rm .cl)⟩,
   ⟨0xD3, 0xFF, (some 5), .modrm, bRm (fun rm => .shrRmv rm .cl)⟩,
   ⟨0xD3, 0xFF, (some 7), .modrm, bRm (fun rm => .sarRmv rm .cl)⟩,
   ⟨0xD4, 0xFF, none, .imm8, bImm8 .aam⟩,
   ⟨0xD5, 0xFF, none, .imm8, bImm8 .aad⟩,
   ⟨0xD7, 0xFF, none, .none, bNone .xlat⟩,
   ⟨0xD8, 0xF8, none, .esc, bEsc .esc⟩,
   ⟨0xE0, 0xFF, none, .imm8, bImm8 .loopneRel8⟩,
   ⟨0xE1, 0xFF, none, .imm8, bImm8 .loopeRel8⟩,
   ⟨0xE2, 0xFF, none, .imm8, bImm8 .loopRel8⟩,
   ⟨0xE3, 0xFF, none, .imm8, bImm8 .jcxzRel8⟩,
   ⟨0xE4, 0xFF, none, .imm8, bImm8 .inAlImm8⟩,
   ⟨0xE5, 0xFF, none, .imm8, bImm8 .inEaxImm8⟩,
   ⟨0xE6, 0xFF, none, .imm8, bImm8 .outImm8Al⟩,
   ⟨0xE7, 0xFF, none, .imm8, bImm8 .outImm8Eax⟩,
   ⟨0xE8, 0xFF, none, .immV, bImmV .callRelv⟩,
   ⟨0xE9, 0xFF, none, .immV, bImmV .jmpRelv⟩,
   ⟨0xEA, 0xFF, none, .far, bFar .jmpFar⟩,
   ⟨0xEB, 0xFF, none, .imm8, bImm8 .jmpRel8⟩,
   ⟨0xEC, 0xFF, none, .none, bNone .inAlDx⟩,
   ⟨0xED, 0xFF, none, .none, bNone .inEaxDx⟩,
   ⟨0xEE, 0xFF, none, .none, bNone .outDxAl⟩,
   ⟨0xEF, 0xFF, none, .none, bNone .outDxEax⟩,
   ⟨0xF0, 0xFF, none, .none, bNone .lock⟩]

/-- The one-byte opcode map (R152, R154), opcodes F2 to FD. -/
def oneByteRowsPart10 : List OpRow :=
  [⟨0xF2, 0xFF, none, .none, bNone .repne⟩,
   ⟨0xF3, 0xFF, none, .none, bNone .rep⟩,
   ⟨0xF4, 0xFF, none, .none, bNone .hlt⟩,
   ⟨0xF5, 0xFF, none, .none, bNone .cmc⟩,
   ⟨0xF6, 0xFF, (some 0), .modrmImm8, bRmImm8 .testRm8Imm8⟩,
   ⟨0xF6, 0xFF, (some 2), .modrm, bRm .notRm8⟩,
   ⟨0xF6, 0xFF, (some 3), .modrm, bRm .negRm8⟩,
   ⟨0xF6, 0xFF, (some 4), .modrm, bRm .mulRm8⟩,
   ⟨0xF6, 0xFF, (some 5), .modrm, bRm .imulRm8⟩,
   ⟨0xF6, 0xFF, (some 6), .modrm, bRm .divRm8⟩,
   ⟨0xF6, 0xFF, (some 7), .modrm, bRm .idivRm8⟩,
   ⟨0xF7, 0xFF, (some 0), .modrmImmV, bRmImmV .testRmvImmv⟩,
   ⟨0xF7, 0xFF, (some 2), .modrm, bRm .notRmv⟩,
   ⟨0xF7, 0xFF, (some 3), .modrm, bRm .negRmv⟩,
   ⟨0xF7, 0xFF, (some 4), .modrm, bRm .mulRmv⟩,
   ⟨0xF7, 0xFF, (some 5), .modrm, bRm .imulRmv⟩,
   ⟨0xF7, 0xFF, (some 6), .modrm, bRm .divRmv⟩,
   ⟨0xF7, 0xFF, (some 7), .modrm, bRm .idivRmv⟩,
   ⟨0xF8, 0xFF, none, .none, bNone .clc⟩,
   ⟨0xF9, 0xFF, none, .none, bNone .stc⟩,
   ⟨0xFA, 0xFF, none, .none, bNone .cli⟩,
   ⟨0xFB, 0xFF, none, .none, bNone .sti⟩,
   ⟨0xFC, 0xFF, none, .none, bNone .cld⟩,
   ⟨0xFD, 0xFF, none, .none, bNone .std⟩]

/-- The one-byte opcode map (R152, R154), opcodes FE to FF. -/
def oneByteRowsPart11 : List OpRow :=
  [⟨0xFE, 0xFF, (some 0), .modrm, bRm .incRm8⟩,
   ⟨0xFE, 0xFF, (some 1), .modrm, bRm .decRm8⟩,
   ⟨0xFF, 0xFF, (some 0), .modrm, bRm .incRmv⟩,
   ⟨0xFF, 0xFF, (some 1), .modrm, bRm .decRmv⟩,
   ⟨0xFF, 0xFF, (some 2), .modrm, bRm .callRmv⟩,
   ⟨0xFF, 0xFF, (some 3), .modrm, bRm .callFarM⟩,
   ⟨0xFF, 0xFF, (some 4), .modrm, bRm .jmpRmv⟩,
   ⟨0xFF, 0xFF, (some 5), .modrm, bRm .jmpFarM⟩,
   ⟨0xFF, 0xFF, (some 6), .modrm, bRm .pushRmv⟩]

/-- The one-byte opcode map (R152, R154). -/
def oneByteRows : List OpRow :=
  oneByteRowsPart0 ++ oneByteRowsPart1 ++ oneByteRowsPart2 ++ oneByteRowsPart3 ++ oneByteRowsPart4 ++ oneByteRowsPart5 ++ oneByteRowsPart6 ++ oneByteRowsPart7 ++ oneByteRowsPart8 ++ oneByteRowsPart9 ++ oneByteRowsPart10 ++ oneByteRowsPart11

/-- The two-byte opcode map, by the byte after 0F (R153, R154), opcodes 0F00 to 0F82. -/
def twoByteRowsPart0 : List OpRow :=
  [⟨0x00, 0xFF, (some 0), .modrm, bRm .sldt⟩,
   ⟨0x00, 0xFF, (some 1), .modrm, bRm .str⟩,
   ⟨0x00, 0xFF, (some 2), .modrm, bRm .lldt⟩,
   ⟨0x00, 0xFF, (some 3), .modrm, bRm .ltr⟩,
   ⟨0x00, 0xFF, (some 4), .modrm, bRm .verr⟩,
   ⟨0x00, 0xFF, (some 5), .modrm, bRm .verw⟩,
   ⟨0x01, 0xFF, (some 0), .modrm, bRm .sgdt⟩,
   ⟨0x01, 0xFF, (some 1), .modrm, bRm .sidt⟩,
   ⟨0x01, 0xFF, (some 2), .modrm, bRm .lgdt⟩,
   ⟨0x01, 0xFF, (some 3), .modrm, bRm .lidt⟩,
   ⟨0x01, 0xFF, (some 4), .modrm, bRm .smsw⟩,
   ⟨0x01, 0xFF, (some 6), .modrm, bRm .lmsw⟩,
   ⟨0x02, 0xFF, none, .modrm, bRRm .lar⟩,
   ⟨0x03, 0xFF, none, .modrm, bRRm .lsl⟩,
   ⟨0x06, 0xFF, none, .none, bNone .clts⟩,
   ⟨0x20, 0xFF, none, .special, bSpecialRd .movRCr⟩,
   ⟨0x21, 0xFF, none, .special, bSpecialRd .movRDr⟩,
   ⟨0x22, 0xFF, none, .special, bSpecialWr .movCrR⟩,
   ⟨0x23, 0xFF, none, .special, bSpecialWr .movDrR⟩,
   ⟨0x24, 0xFF, none, .special, bSpecialRd .movRTr⟩,
   ⟨0x26, 0xFF, none, .special, bSpecialWr .movTrR⟩,
   ⟨0x80, 0xFF, none, .immV, bImmV (fun d => .jo (.near d))⟩,
   ⟨0x81, 0xFF, none, .immV, bImmV (fun d => .jno (.near d))⟩,
   ⟨0x82, 0xFF, none, .immV, bImmV (fun d => .jb (.near d))⟩]

/-- The two-byte opcode map, by the byte after 0F (R153, R154), opcodes 0F83 to 0F9A. -/
def twoByteRowsPart1 : List OpRow :=
  [⟨0x83, 0xFF, none, .immV, bImmV (fun d => .jnb (.near d))⟩,
   ⟨0x84, 0xFF, none, .immV, bImmV (fun d => .jz (.near d))⟩,
   ⟨0x85, 0xFF, none, .immV, bImmV (fun d => .jnz (.near d))⟩,
   ⟨0x86, 0xFF, none, .immV, bImmV (fun d => .jbe (.near d))⟩,
   ⟨0x87, 0xFF, none, .immV, bImmV (fun d => .jnbe (.near d))⟩,
   ⟨0x88, 0xFF, none, .immV, bImmV (fun d => .js (.near d))⟩,
   ⟨0x89, 0xFF, none, .immV, bImmV (fun d => .jns (.near d))⟩,
   ⟨0x8A, 0xFF, none, .immV, bImmV (fun d => .jp (.near d))⟩,
   ⟨0x8B, 0xFF, none, .immV, bImmV (fun d => .jnp (.near d))⟩,
   ⟨0x8C, 0xFF, none, .immV, bImmV (fun d => .jl (.near d))⟩,
   ⟨0x8D, 0xFF, none, .immV, bImmV (fun d => .jnl (.near d))⟩,
   ⟨0x8E, 0xFF, none, .immV, bImmV (fun d => .jle (.near d))⟩,
   ⟨0x8F, 0xFF, none, .immV, bImmV (fun d => .jnle (.near d))⟩,
   ⟨0x90, 0xFF, none, .modrm, bRm .seto⟩,
   ⟨0x91, 0xFF, none, .modrm, bRm .setno⟩,
   ⟨0x92, 0xFF, none, .modrm, bRm .setb⟩,
   ⟨0x93, 0xFF, none, .modrm, bRm .setnb⟩,
   ⟨0x94, 0xFF, none, .modrm, bRm .setz⟩,
   ⟨0x95, 0xFF, none, .modrm, bRm .setnz⟩,
   ⟨0x96, 0xFF, none, .modrm, bRm .setbe⟩,
   ⟨0x97, 0xFF, none, .modrm, bRm .setnbe⟩,
   ⟨0x98, 0xFF, none, .modrm, bRm .sets⟩,
   ⟨0x99, 0xFF, none, .modrm, bRm .setns⟩,
   ⟨0x9A, 0xFF, none, .modrm, bRm .setp⟩]

/-- The two-byte opcode map, by the byte after 0F (R153, R154), opcodes 0F9B to 0FBA. -/
def twoByteRowsPart2 : List OpRow :=
  [⟨0x9B, 0xFF, none, .modrm, bRm .setnp⟩,
   ⟨0x9C, 0xFF, none, .modrm, bRm .setl⟩,
   ⟨0x9D, 0xFF, none, .modrm, bRm .setnl⟩,
   ⟨0x9E, 0xFF, none, .modrm, bRm .setle⟩,
   ⟨0x9F, 0xFF, none, .modrm, bRm .setnle⟩,
   ⟨0xA0, 0xFF, none, .none, bNone .pushFs⟩,
   ⟨0xA1, 0xFF, none, .none, bNone .popFs⟩,
   ⟨0xA3, 0xFF, none, .modrm, bRmR .btRmvRv⟩,
   ⟨0xA4, 0xFF, none, .modrmImm8, bRmRImm8 .shldImm8⟩,
   ⟨0xA5, 0xFF, none, .modrm, bRmR .shldCl⟩,
   ⟨0xA8, 0xFF, none, .none, bNone .pushGs⟩,
   ⟨0xA9, 0xFF, none, .none, bNone .popGs⟩,
   ⟨0xAB, 0xFF, none, .modrm, bRmR .btsRmvRv⟩,
   ⟨0xAC, 0xFF, none, .modrmImm8, bRmRImm8 .shrdImm8⟩,
   ⟨0xAD, 0xFF, none, .modrm, bRmR .shrdCl⟩,
   ⟨0xAF, 0xFF, none, .modrm, bRRm .imulRvRmv⟩,
   ⟨0xB2, 0xFF, none, .modrm, bRRm .lss⟩,
   ⟨0xB3, 0xFF, none, .modrm, bRmR .btrRmvRv⟩,
   ⟨0xB4, 0xFF, none, .modrm, bRRm .lfs⟩,
   ⟨0xB5, 0xFF, none, .modrm, bRRm .lgs⟩,
   ⟨0xB6, 0xFF, none, .modrm, bRRm .movzxRm8⟩,
   ⟨0xB7, 0xFF, none, .modrm, bRRm .movzxRm16⟩,
   ⟨0xBA, 0xFF, (some 4), .modrmImm8, bRmImm8 .btRmvImm8⟩,
   ⟨0xBA, 0xFF, (some 5), .modrmImm8, bRmImm8 .btsRmvImm8⟩]

/-- The two-byte opcode map, by the byte after 0F (R153, R154), opcodes 0FBA to 0FBF. -/
def twoByteRowsPart3 : List OpRow :=
  [⟨0xBA, 0xFF, (some 6), .modrmImm8, bRmImm8 .btrRmvImm8⟩,
   ⟨0xBA, 0xFF, (some 7), .modrmImm8, bRmImm8 .btcRmvImm8⟩,
   ⟨0xBB, 0xFF, none, .modrm, bRmR .btcRmvRv⟩,
   ⟨0xBC, 0xFF, none, .modrm, bRRm .bsf⟩,
   ⟨0xBD, 0xFF, none, .modrm, bRRm .bsr⟩,
   ⟨0xBE, 0xFF, none, .modrm, bRRm .movsxRm8⟩,
   ⟨0xBF, 0xFF, none, .modrm, bRRm .movsxRm16⟩]

/-- The two-byte opcode map, by the byte after 0F (R153, R154). -/
def twoByteRows : List OpRow :=
  twoByteRowsPart0 ++ twoByteRowsPart1 ++ twoByteRowsPart2 ++ twoByteRowsPart3

/-- Decodes the operands after opcode byte `op` by the row of `rows` that applies (R156). A /digit opcode at the end
of the bytes is not told apart yet. -/
def decodeRow (rows : List OpRow) (os as : Size) (op : Byte) (bs : List Byte) : Decoded :=
  match rows.find? (fun r => r.applies op (bs.head?.map regField)) with
  | some r =>
    match takeOperands os as op r.shape bs with
    | some (o, rest) =>
      match r.build o with
      | some i => .ok i rest
      | none => .undefinedOpcode
    | none => .truncated
  | none =>
    if bs.isEmpty && rows.any (fun r => op &&& r.mask == r.code) then .truncated else .undefinedOpcode

/-- The decoder: reads one row of the opcode table, an instruction or one prefix byte, under the given operand size and
address size. Total on any bytes. -/
def decode (os as : Size) (bs : List Byte) : Decoded :=
  match bs with
  | [] => .truncated
  | op :: t =>
    if op = 0x0F then
      match t with
      | [] => .truncated
      | op2 :: t2 => decodeRow twoByteRows os as op2 t2
    else decodeRow oneByteRows os as op t

/-! ### The encoder -/

/-- A word's bytes, low-order byte first (R149). -/
def bytes16 (v : BitVec 16) : List Byte := [v.extractLsb' 0 8, v.extractLsb' 8 8]

/-- A doubleword's bytes, low-order byte first (R149). -/
def bytes32 (v : BitVec 32) : List Byte :=
  [v.extractLsb' 0 8, v.extractLsb' 8 8, v.extractLsb' 16 8, v.extractLsb' 24 8]

/-- The bytes of a size-dependent field. -/
def VImm.encode : VImm → List Byte
  | .w16 v => bytes16 v
  | .w32 v => bytes32 v

/-- The mod field of a displacement's length (R145, R146). -/
def Disp.mod {n : Nat} : Disp n → BitVec 2
  | .none => 0
  | .short _ => 1
  | .full _ => 2

/-- The bytes of a 16-bit displacement. -/
def encodeDisp16 : Disp 16 → List Byte
  | .none => []
  | .short d => [d]
  | .full d => bytes16 d

/-- The bytes of a 32-bit displacement. -/
def encodeDisp32 : Disp 32 → List Byte
  | .none => []
  | .short d => [d]
  | .full d => bytes32 d

/-- The index code of a SIB byte (R147). -/
def indexCode : Option Reg → BitVec 3
  | none => 4
  | some r => r.code

/-- The ModR/M byte of a memory operand, its SIB byte and its displacement, with `g` in the reg field (R145 to R147). -/
def EA.encode (g : BitVec 3) : EA → List Byte
  | .a16 b d => fieldsByte d.mod g b.code :: encodeDisp16 d
  | .a16abs d => fieldsByte 0 g 6 :: bytes16 d
  | .a32 b d => fieldsByte d.mod g b.code :: encodeDisp32 d
  | .a32abs d => fieldsByte 0 g 5 :: bytes32 d
  | .sib s x b d => fieldsByte d.mod g 4 :: fieldsByte s (indexCode x) b.code :: encodeDisp32 d
  | .sibNoBase s x d => fieldsByte 0 g 4 :: fieldsByte s (indexCode x) 5 :: bytes32 d

/-- The ModR/M byte and what follows it (R144). -/
def RM.encode (g : BitVec 3) : RM → List Byte
  | .reg r => [fieldsByte 3 g r.code]
  | .mem ea => ea.encode g

/-- The bytes after the opcode, in the order of R140. An operand in the opcode byte itself adds none. -/
def Operands.encode : Operands → List Byte
  | .none => []
  | .plus _ => []
  | .plusImm8 _ i => [i]
  | .plusImmV _ i => i.encode
  | .modrm g rm => rm.encode g
  | .modrmImm8 g rm i => rm.encode g ++ [i]
  | .modrmImmV g rm i => rm.encode g ++ i.encode
  | .imm8 i => [i]
  | .imm16 i => bytes16 i
  | .immV i => i.encode
  | .imm16Imm8 i j => bytes16 i ++ [j]
  | .moffs o => o.encode
  | .far o s => o.encode ++ bytes16 s
  | .special g r => [fieldsByte 3 g r.code]
  | .esc _ g rm => rm.encode g

/-- An opcode byte with a register code in its low three bits (R150). -/
def plusCode (op : Byte) (c : BitVec 3) : Byte := op ||| c.setWidth 8

/-- The opcode byte of a shift or rotate: C0, D0 or D2 for a byte operand (`w` 0), the next byte up for a word or
doubleword (`w` 1) (R152). -/
def Count.opcode (w : Byte) : Count → Byte
  | .imm _ => 0xC0 ||| w
  | .one => 0xD0 ||| w
  | .cl => 0xD2 ||| w

/-- The opcode bytes of the conditional jump with subcode `n` (R152, R153). -/
def Rel.opcode (n : Byte) : Rel → List Byte
  | .short _ => [0x70 ||| n]
  | .near _ => [0x0F, 0x80 ||| n]

/-- The opcode bytes of each instruction (R152 to R154). -/
def Instr.opcode : Instr → List Byte
  | .addRm8R8 _ _ => [0x00]
  | .addRmvRv _ _ => [0x01]
  | .addR8Rm8 _ _ => [0x02]
  | .addRvRmv _ _ => [0x03]
  | .addAlImm8 _ => [0x04]
  | .addEaxImmv _ => [0x05]
  | .addRm8Imm8 _ _ => [0x80]
  | .addRmvImmv _ _ => [0x81]
  | .addRmvImm8 _ _ => [0x83]
  | .orRm8R8 _ _ => [0x08]
  | .orRmvRv _ _ => [0x09]
  | .orR8Rm8 _ _ => [0x0A]
  | .orRvRmv _ _ => [0x0B]
  | .orAlImm8 _ => [0x0C]
  | .orEaxImmv _ => [0x0D]
  | .orRm8Imm8 _ _ => [0x80]
  | .orRmvImmv _ _ => [0x81]
  | .orRmvImm8 _ _ => [0x83]
  | .adcRm8R8 _ _ => [0x10]
  | .adcRmvRv _ _ => [0x11]
  | .adcR8Rm8 _ _ => [0x12]
  | .adcRvRmv _ _ => [0x13]
  | .adcAlImm8 _ => [0x14]
  | .adcEaxImmv _ => [0x15]
  | .adcRm8Imm8 _ _ => [0x80]
  | .adcRmvImmv _ _ => [0x81]
  | .adcRmvImm8 _ _ => [0x83]
  | .sbbRm8R8 _ _ => [0x18]
  | .sbbRmvRv _ _ => [0x19]
  | .sbbR8Rm8 _ _ => [0x1A]
  | .sbbRvRmv _ _ => [0x1B]
  | .sbbAlImm8 _ => [0x1C]
  | .sbbEaxImmv _ => [0x1D]
  | .sbbRm8Imm8 _ _ => [0x80]
  | .sbbRmvImmv _ _ => [0x81]
  | .sbbRmvImm8 _ _ => [0x83]
  | .andRm8R8 _ _ => [0x20]
  | .andRmvRv _ _ => [0x21]
  | .andR8Rm8 _ _ => [0x22]
  | .andRvRmv _ _ => [0x23]
  | .andAlImm8 _ => [0x24]
  | .andEaxImmv _ => [0x25]
  | .andRm8Imm8 _ _ => [0x80]
  | .andRmvImmv _ _ => [0x81]
  | .andRmvImm8 _ _ => [0x83]
  | .subRm8R8 _ _ => [0x28]
  | .subRmvRv _ _ => [0x29]
  | .subR8Rm8 _ _ => [0x2A]
  | .subRvRmv _ _ => [0x2B]
  | .subAlImm8 _ => [0x2C]
  | .subEaxImmv _ => [0x2D]
  | .subRm8Imm8 _ _ => [0x80]
  | .subRmvImmv _ _ => [0x81]
  | .subRmvImm8 _ _ => [0x83]
  | .xorRm8R8 _ _ => [0x30]
  | .xorRmvRv _ _ => [0x31]
  | .xorR8Rm8 _ _ => [0x32]
  | .xorRvRmv _ _ => [0x33]
  | .xorAlImm8 _ => [0x34]
  | .xorEaxImmv _ => [0x35]
  | .xorRm8Imm8 _ _ => [0x80]
  | .xorRmvImmv _ _ => [0x81]
  | .xorRmvImm8 _ _ => [0x83]
  | .cmpRm8R8 _ _ => [0x38]
  | .cmpRmvRv _ _ => [0x39]
  | .cmpR8Rm8 _ _ => [0x3A]
  | .cmpRvRmv _ _ => [0x3B]
  | .cmpAlImm8 _ => [0x3C]
  | .cmpEaxImmv _ => [0x3D]
  | .cmpRm8Imm8 _ _ => [0x80]
  | .cmpRmvImmv _ _ => [0x81]
  | .cmpRmvImm8 _ _ => [0x83]
  | .aam _ => [0xD4]
  | .aad _ => [0xD5]
  | .incRv r => [plusCode 0x40 r.code]
  | .decRv r => [plusCode 0x48 r.code]
  | .pushRv r => [plusCode 0x50 r.code]
  | .popRv r => [plusCode 0x58 r.code]
  | .bound _ _ => [0x62]
  | .arpl _ _ => [0x63]
  | .pushImmv _ => [0x68]
  | .imulRvRmvImmv _ _ _ => [0x69]
  | .pushImm8 _ => [0x6A]
  | .imulRvRmvImm8 _ _ _ => [0x6B]
  | .jo rel => rel.opcode 0x0
  | .jno rel => rel.opcode 0x1
  | .jb rel => rel.opcode 0x2
  | .jnb rel => rel.opcode 0x3
  | .jz rel => rel.opcode 0x4
  | .jnz rel => rel.opcode 0x5
  | .jbe rel => rel.opcode 0x6
  | .jnbe rel => rel.opcode 0x7
  | .js rel => rel.opcode 0x8
  | .jns rel => rel.opcode 0x9
  | .jp rel => rel.opcode 0xA
  | .jnp rel => rel.opcode 0xB
  | .jl rel => rel.opcode 0xC
  | .jnl rel => rel.opcode 0xD
  | .jle rel => rel.opcode 0xE
  | .jnle rel => rel.opcode 0xF
  | .seto _ => [0x0F, 0x90]
  | .setno _ => [0x0F, 0x91]
  | .setb _ => [0x0F, 0x92]
  | .setnb _ => [0x0F, 0x93]
  | .setz _ => [0x0F, 0x94]
  | .setnz _ => [0x0F, 0x95]
  | .setbe _ => [0x0F, 0x96]
  | .setnbe _ => [0x0F, 0x97]
  | .sets _ => [0x0F, 0x98]
  | .setns _ => [0x0F, 0x99]
  | .setp _ => [0x0F, 0x9A]
  | .setnp _ => [0x0F, 0x9B]
  | .setl _ => [0x0F, 0x9C]
  | .setnl _ => [0x0F, 0x9D]
  | .setle _ => [0x0F, 0x9E]
  | .setnle _ => [0x0F, 0x9F]
  | .testRm8R8 _ _ => [0x84]
  | .testRmvRv _ _ => [0x85]
  | .xchgRm8R8 _ _ => [0x86]
  | .xchgRmvRv _ _ => [0x87]
  | .movRm8R8 _ _ => [0x88]
  | .movRmvRv _ _ => [0x89]
  | .movR8Rm8 _ _ => [0x8A]
  | .movRvRmv _ _ => [0x8B]
  | .movRmSreg _ _ => [0x8C]
  | .lea _ _ => [0x8D]
  | .movSregRm _ _ => [0x8E]
  | .popRmv _ => [0x8F]
  | .xchgEaxRv r => [plusCode 0x90 r.code]
  | .callFar _ _ => [0x9A]
  | .movAlMoffs _ => [0xA0]
  | .movEaxMoffs _ => [0xA1]
  | .movMoffsAl _ => [0xA2]
  | .movMoffsEax _ => [0xA3]
  | .testAlImm8 _ => [0xA8]
  | .testEaxImmv _ => [0xA9]
  | .movR8Imm8 r _ => [plusCode 0xB0 r.code]
  | .movRvImmv r _ => [plusCode 0xB8 r.code]
  | .rolRm8 _ count => [count.opcode 0]
  | .rolRmv _ count => [count.opcode 1]
  | .rorRm8 _ count => [count.opcode 0]
  | .rorRmv _ count => [count.opcode 1]
  | .rclRm8 _ count => [count.opcode 0]
  | .rclRmv _ count => [count.opcode 1]
  | .rcrRm8 _ count => [count.opcode 0]
  | .rcrRmv _ count => [count.opcode 1]
  | .shlRm8 _ count => [count.opcode 0]
  | .shlRmv _ count => [count.opcode 1]
  | .shrRm8 _ count => [count.opcode 0]
  | .shrRmv _ count => [count.opcode 1]
  | .sarRm8 _ count => [count.opcode 0]
  | .sarRmv _ count => [count.opcode 1]
  | .retNearImm _ => [0xC2]
  | .les _ _ => [0xC4]
  | .lds _ _ => [0xC5]
  | .movRm8Imm8 _ _ => [0xC6]
  | .movRmvImmv _ _ => [0xC7]
  | .enter _ _ => [0xC8]
  | .retFarImm _ => [0xCA]
  | .intN _ => [0xCD]
  | .esc op _ _ => [plusCode 0xD8 op]
  | .loopneRel8 _ => [0xE0]
  | .loopeRel8 _ => [0xE1]
  | .loopRel8 _ => [0xE2]
  | .jcxzRel8 _ => [0xE3]
  | .inAlImm8 _ => [0xE4]
  | .inEaxImm8 _ => [0xE5]
  | .outImm8Al _ => [0xE6]
  | .outImm8Eax _ => [0xE7]
  | .callRelv _ => [0xE8]
  | .jmpRelv _ => [0xE9]
  | .jmpFar _ _ => [0xEA]
  | .jmpRel8 _ => [0xEB]
  | .testRm8Imm8 _ _ => [0xF6]
  | .testRmvImmv _ _ => [0xF7]
  | .notRm8 _ => [0xF6]
  | .notRmv _ => [0xF7]
  | .negRm8 _ => [0xF6]
  | .negRmv _ => [0xF7]
  | .mulRm8 _ => [0xF6]
  | .mulRmv _ => [0xF7]
  | .imulRm8 _ => [0xF6]
  | .imulRmv _ => [0xF7]
  | .divRm8 _ => [0xF6]
  | .divRmv _ => [0xF7]
  | .idivRm8 _ => [0xF6]
  | .idivRmv _ => [0xF7]
  | .incRm8 _ => [0xFE]
  | .decRm8 _ => [0xFE]
  | .incRmv _ => [0xFF]
  | .decRmv _ => [0xFF]
  | .callRmv _ => [0xFF]
  | .callFarM _ => [0xFF]
  | .jmpRmv _ => [0xFF]
  | .jmpFarM _ => [0xFF]
  | .pushRmv _ => [0xFF]
  | .sldt _ => [0x0F, 0x00]
  | .str _ => [0x0F, 0x00]
  | .lldt _ => [0x0F, 0x00]
  | .ltr _ => [0x0F, 0x00]
  | .verr _ => [0x0F, 0x00]
  | .verw _ => [0x0F, 0x00]
  | .sgdt _ => [0x0F, 0x01]
  | .sidt _ => [0x0F, 0x01]
  | .lgdt _ => [0x0F, 0x01]
  | .lidt _ => [0x0F, 0x01]
  | .smsw _ => [0x0F, 0x01]
  | .lmsw _ => [0x0F, 0x01]
  | .lar _ _ => [0x0F, 0x02]
  | .lsl _ _ => [0x0F, 0x03]
  | .movRCr _ _ => [0x0F, 0x20]
  | .movRDr _ _ => [0x0F, 0x21]
  | .movCrR _ _ => [0x0F, 0x22]
  | .movDrR _ _ => [0x0F, 0x23]
  | .movRTr _ _ => [0x0F, 0x24]
  | .movTrR _ _ => [0x0F, 0x26]
  | .btRmvRv _ _ => [0x0F, 0xA3]
  | .shldImm8 _ _ _ => [0x0F, 0xA4]
  | .shldCl _ _ => [0x0F, 0xA5]
  | .btsRmvRv _ _ => [0x0F, 0xAB]
  | .shrdImm8 _ _ _ => [0x0F, 0xAC]
  | .shrdCl _ _ => [0x0F, 0xAD]
  | .imulRvRmv _ _ => [0x0F, 0xAF]
  | .lss _ _ => [0x0F, 0xB2]
  | .btrRmvRv _ _ => [0x0F, 0xB3]
  | .lfs _ _ => [0x0F, 0xB4]
  | .lgs _ _ => [0x0F, 0xB5]
  | .movzxRm8 _ _ => [0x0F, 0xB6]
  | .movzxRm16 _ _ => [0x0F, 0xB7]
  | .btRmvImm8 _ _ => [0x0F, 0xBA]
  | .btsRmvImm8 _ _ => [0x0F, 0xBA]
  | .btrRmvImm8 _ _ => [0x0F, 0xBA]
  | .btcRmvImm8 _ _ => [0x0F, 0xBA]
  | .btcRmvRv _ _ => [0x0F, 0xBB]
  | .bsf _ _ => [0x0F, 0xBC]
  | .bsr _ _ => [0x0F, 0xBD]
  | .movsxRm8 _ _ => [0x0F, 0xBE]
  | .movsxRm16 _ _ => [0x0F, 0xBF]
  | .pushEs => [0x06]
  | .pushCs => [0x0E]
  | .pushSs => [0x16]
  | .pushDs => [0x1E]
  | .popEs => [0x07]
  | .popSs => [0x17]
  | .popDs => [0x1F]
  | .pushFs => [0x0F, 0xA0]
  | .popFs => [0x0F, 0xA1]
  | .pushGs => [0x0F, 0xA8]
  | .popGs => [0x0F, 0xA9]
  | .segEs => [0x26]
  | .segCs => [0x2E]
  | .segSs => [0x36]
  | .segDs => [0x3E]
  | .segFs => [0x64]
  | .segGs => [0x65]
  | .opsize => [0x66]
  | .addrsize => [0x67]
  | .lock => [0xF0]
  | .repne => [0xF2]
  | .rep => [0xF3]
  | .daa => [0x27]
  | .das => [0x2F]
  | .aaa => [0x37]
  | .aas => [0x3F]
  | .pusha => [0x60]
  | .popa => [0x61]
  | .insB => [0x6C]
  | .insV => [0x6D]
  | .outsB => [0x6E]
  | .outsV => [0x6F]
  | .nop => [0x90]
  | .cbw => [0x98]
  | .cwd => [0x99]
  | .wait => [0x9B]
  | .pushf => [0x9C]
  | .popf => [0x9D]
  | .sahf => [0x9E]
  | .lahf => [0x9F]
  | .movsB => [0xA4]
  | .movsV => [0xA5]
  | .cmpsB => [0xA6]
  | .cmpsV => [0xA7]
  | .stosB => [0xAA]
  | .stosV => [0xAB]
  | .lodsB => [0xAC]
  | .lodsV => [0xAD]
  | .scasB => [0xAE]
  | .scasV => [0xAF]
  | .retNear => [0xC3]
  | .leave => [0xC9]
  | .retFar => [0xCB]
  | .int3 => [0xCC]
  | .into => [0xCE]
  | .iret => [0xCF]
  | .xlat => [0xD7]
  | .inAlDx => [0xEC]
  | .inEaxDx => [0xED]
  | .outDxAl => [0xEE]
  | .outDxEax => [0xEF]
  | .hlt => [0xF4]
  | .cmc => [0xF5]
  | .clc => [0xF8]
  | .stc => [0xF9]
  | .cli => [0xFA]
  | .sti => [0xFB]
  | .cld => [0xFC]
  | .std => [0xFD]
  | .clts => [0x0F, 0x06]

/-- The bytes of an instruction, in memory order (R140). -/
def encode (i : Instr) : List Byte := i.opcode ++ i.operands.encode

/-! ### The host's numbering -/

/-- The `n` low bytes of `w`, the lowest first: the bytes of an instruction numbered as the opcode table numbers them. -/
def tableBytes (n : Nat) (w : Nat) : List Byte :=
  match n with
  | 0 => []
  | n + 1 => BitVec.ofNat 8 w :: tableBytes n (w / 256)

/-- The number of bytes a table word is laid out in: the longest instruction, prefixes included (D15). -/
def tableWordBytes : Nat := 16

/-- The instruction of the bits `w`, under the 16-bit attributes a program has at reset (R142). Bits above `nbits`
are zero. -/
def decodeTableWord (nbits w : Nat) : Option Instr :=
  match decode .s16 .s16 (tableBytes tableWordBytes (w % 2 ^ nbits)) with
  | .ok i _ => some i
  | .undefinedOpcode => none
  | .truncated => none

end Sys2Proof
end

