-- ==== Sys2Proof/Machine/Fetch.lean ====
section
/-! DEFINITION. Machine/Fetch.lean: fetching and decoding the next instruction, and placing one there. -/

namespace Sys2Proof.Machine

/-- The longest row of the opcode table in bytes: one opcode byte, ModR/M, SIB, four bytes of displacement and four of
immediate (R140). Prefixes are rows of their own. -/
def longestRow : Nat := 11

/-- The bytes from an offset of the code segment, at most the given number, and why the byte after them cannot be had:
beyond the limit (R32, R107), a page fault, or stored within the prefetch window with no jump since (R107). -/
def State.fetchBytes (s : State) : Nat → Nat → List Byte × Stop
  | 0, _ => ([], .refuse .prefixRun)
  | n + 1, off =>
    if s.segs.cs.limit.toNat < off then ([], .exc (excGP 0))
    else if s.segs.cs.base + BitVec.ofNat 32 off ∈ s.seq.stale then ([], .refuse .prefetchWindow)
    else
      match s.physAddr .execute s.user (s.segs.cs.base + BitVec.ofNat 32 off) with
      | .error e => ([], e)
      | .ok p =>
        match s.fetchBytes n (off + 1) with
        | (bs, e) => (memByte s.mem p :: bs, e)

/-- The row of the opcode table at CS:EIP under the current attributes, with the number of its bytes (R156). -/
def State.decodeNext (s : State) : Res (Instr × Nat) :=
  let f := s.fetchBytes longestRow s.eip.toNat
  match decode s.opSize s.addrSize f.1 with
  | .ok i rest => .ok (i, f.1.length - rest.length)
  | .undefinedOpcode => raise excUD
  | .truncated => .error f.2

/-- The state with EIP past a row of `n` bytes: `next_eip` (R32). -/
def State.advance (s : State) (n : Nat) : State := { s with eip := s.eip + BitVec.ofNat 32 n }

/-- The instruction, its prefixes included, is longer than MAX_INSN_LEN (D15). -/
def State.tooLong (s : State) : Bool :=
  match Config.maxInsnLen with
  | none => false
  | some m => decide (m < (s.eip - s.seq.startEip).toNat)

/-- The bytes of an instruction stored at CS:EIP, and every event cleared that would keep the next step from fetching
it. -/
def State.placeInstr (s : State) (bs : List Byte) : State :=
  let t : State :=
    { s with
      seq := { s.seq with halted := false, shutdown := false, peSwitch := false, stale := [] }
      pins := { s.pins with intr := none, nmi := false, reset := false } }
  match s.physAddrs .execute s.user bs.length (s.segs.cs.base + s.eip) with
  | .error _ => t
  | .ok ps => { t with mem := memSetBytes s.mem ps bs }

end Sys2Proof.Machine
end

