-- ==== Sys2Proof/Machine/Run.lean ====
section
/-! DEFINITION. Machine/Run.lean: one step of the machine: events at the boundary, then one instruction. -/

namespace Sys2Proof.Machine

/-- The rows of the opcode table that are prefix bytes (R141). -/
def prefixRows : List Instr :=
  [.segEs, .segCs, .segSs, .segDs, .segFs, .segGs, .opsize, .addrsize, .lock, .repne, .rep]

/-- The row is a prefix byte. -/
def isPrefixRow (i : Instr) : Bool := prefixRows.contains i

/-- The most rows one instruction is read from: prefixes and the instruction they precede (D16). -/
def prefixFuel : Nat := 16

/-- Runs the instruction at CS:EIP: its prefix rows one after another, then the row they precede (R140, R156). -/
def State.runInstr : Nat → State → Out
  | 0, _ => .refused .prefixRun
  | n + 1, s =>
    match s.decodeNext with
    | .error e => s.settle (.error e)
    | .ok (i, len) =>
      if isPrefixRow i then
        match exec i (s.advance len) with
        | .next t => runInstr n t
        | .fault f => .fault f
        | .refused r => .refused r
      else if (s.advance len).tooLong then s.settle (raise (excGP 0))
      else exec i (s.advance len)

/-- The start of an instruction: its first byte is at EIP, no prefix is seen yet, the inhibit state is used up and held
for the iterations of a repeated string instruction (R48), and TF decides whether a single-step trap follows (R477). -/
def State.beginInstr (s : State) : State :=
  { s with seq := { s.seq with startEip := s.eip, pfx := Prefixes.empty, inhibit := .none, held := s.seq.inhibit,
                               stepTrap := s.flags.tf } }

/-- The single-step trap as an event: vector 1, no error code (R477). -/
def stepTrapEvent : Event := { vec := 1, code := none, ext := false, software := false, exception := true }

/-- NMI as an event: vector 2 (R462, R469). -/
def nmiEvent : Event := { vec := 2, code := none, ext := true, software := false, exception := false }

/-- A maskable interrupt as an event, with the vector its controller supplies (R462, R469). -/
def intrEvent (v : BitVec 8) : Event := { vec := v, code := none, ext := true, software := false, exception := false }

/-- Delivers an event at an instruction boundary; a halted processor resumes (R479). -/
def State.deliverAtBoundary (s : State) (e : Event) : Out :=
  State.deliver deliverFuel { s with seq := { s.seq with halted := false, stepTrap := false, pfx := Prefixes.empty } } e

/-- The end of an instruction that began in state `s`: in shutdown nothing more happens (R52, R472), a switch of PE by the
instruction before must have been followed by a taken control transfer (R502), and a single-step trap is taken unless
MOV SS or POP SS inhibits it (R48, R477). DEDUCED (log 18, unsafe): the trap that follows HLT ends the halt. -/
def State.endInstr (s : State) (t : State) : Out :=
  if s.seq.peSwitch && t.seq.peSwitch && !t.seq.shutdown then .refused .modeSwitchWithoutJump
  else if t.seq.stepTrap && t.seq.inhibit != .all && !t.seq.shutdown then t.deliverAtBoundary stepTrapEvent
  else .next { t with seq := { t.seq with stepTrap := false, pfx := Prefixes.empty } }

/-- One instruction from its start to its end. -/
def State.oneInstr (s : State) : Out :=
  match State.runInstr prefixFuel s.beginInstr with
  | .next t => s.endInstr t
  | .fault f => .fault f
  | .refused r => .refused r

/-- RESET (R500): the reset state; memory, the I/O events and the pins other than RESET are not the processor's. -/
def State.doReset (s : State) : State :=
  { State.reset with mem := s.mem, io := s.io, draws := s.draws, pins := { s.pins with reset := false } }

/-- A maskable interrupt is recognised: IF = 1 and no inhibit state (R469). -/
def State.takesIntr (s : State) : Bool := s.flags.intf && s.seq.inhibit == .none

/-- NMI is recognised: not held off and not inhibited by MOV SS or POP SS (R469, R48). -/
def State.takesNmi (s : State) : Bool := s.pins.nmi && !s.seq.nmiBlocked && s.seq.inhibit != .all

/-- One instruction, unless the processor is halted (R479). -/
def State.runUnlessHalted (s : State) : Out := if s.seq.halted then .next s else s.oneInstr

/-- One step: RESET before everything (R500), nothing in shutdown (R52), then NMI, then a maskable interrupt, then an
instruction (R470). -/
def State.runStep (s : State) : Out :=
  if s.pins.reset then .next s.doReset
  else if s.seq.shutdown then .next s
  else if s.takesNmi then
    { s with pins := { s.pins with nmi := false }, seq := { s.seq with nmiBlocked := true } }.deliverAtBoundary nmiEvent
  else
    match s.pins.intr with
    | none => s.runUnlessHalted
    | some v =>
      if s.takesIntr then { s with pins := { s.pins with intr := none } }.deliverAtBoundary (intrEvent v)
      else s.runUnlessHalted

end Sys2Proof.Machine
end

