-- ==== Sys2Proof/Safety.lean ====
section
/-! DEFINITION. Safety.lean: what a well-formed state and an uneventful boundary are, and what an instruction leaves
alone, in the terms the claims use. -/

namespace Sys2Proof.Machine

/-! ### The state between steps -/

/-- LDTR or TR, where it is valid, holds the selector of a descriptor of the GDT (R341, R347). -/
def SysReg.Global (g : SysReg) : Prop := g.valid = true → g.sel &&& 0xFFFC ≠ 0 ∧ g.sel.getLsbD 2 = false

/-- What every meaning keeps: memory is canonical, CR3 has its low bits clear, CS and SS hold a segment, and LDTR and TR
are invalid or name a descriptor of the GDT. -/
def State.Sound (s : State) : Prop :=
  s.mem.wf = true ∧ s.ctrl.cr3 &&& 0xFFF = 0 ∧ s.segs.cs.valid = true ∧ s.segs.ss.valid = true ∧
    s.tables.ldtr.Global ∧ s.tables.tr.Global

/-- What every step keeps: the state is sound, and between steps no prefix and no single-step trap is left over. -/
def State.Inv (s : State) : Prop :=
  s.Sound ∧ s.seq.pfx = Prefixes.empty ∧ s.seq.stepTrap = false

/-- No event is taken at this boundary: the next step runs the instruction at CS:EIP. -/
def State.quiet (s : State) : Prop :=
  s.pins.reset = false ∧ s.seq.shutdown = false ∧ s.takesNmi = false ∧ (s.pins.intr = none ∨ s.takesIntr = false) ∧
    s.seq.halted = false

/-! ### What an instruction changes -/

/-- The instruction in progress has no LOCK or repeat prefix. -/
def State.plain (s : State) : Prop := s.seq.pfx.group = none

/-- The flags other than the six status flags are the same (R33). -/
def Flags.sameControl (f g : Flags) : Prop :=
  g.tf = f.tf ∧ g.intf = f.intf ∧ g.df = f.df ∧ g.iopl = f.iopl ∧ g.nt = f.nt ∧ g.rf = f.rf ∧ g.vm = f.vm

/-- All but the general registers, the flags, memory and the free values is the same. EIP was moved past the instruction
before it ran. -/
def Kept (s t : State) : Prop :=
  t.eip = s.eip ∧ t.segs = s.segs ∧ t.tables = s.tables ∧ t.ctrl = s.ctrl ∧ t.pins = s.pins ∧ t.io = s.io ∧
    { t.seq with stale := s.seq.stale } = s.seq

/-- The physical addresses that a store of width `w` into an r/m operand writes; none for a register. -/
def State.storeAddrs (s : State) (w : Width) : RM → Res (List Nat)
  | .reg _ => .ok []
  | .mem ea => s.physAddrs .write s.user w.bytes (s.linear (s.eaSeg ea) (s.eaOff ea))

/-- In `t` the general registers and memory are those of `s` with `v` stored into the r/m operand, and every byte of
memory outside the stored ones reads as before. -/
def Stores (s t : State) (w : Width) (rm : RM) (v : BitVec w.bits) : Prop :=
  (match rm with
    | .reg r => t.gpr = s.gpr.write w r v
    | .mem _ => t.gpr = s.gpr) ∧
  ∃ ps, s.storeAddrs w rm = .ok ps ∧ t.mem = memSetBytes s.mem ps (leBytes w.bytes v.toNat) ∧
    ∀ a, a ∉ ps → memByte t.mem a = memByte s.mem a

/-- Memory, and with it every byte of it, is the same. -/
def SameMem (s t : State) : Prop := t.mem = s.mem ∧ ∀ a, memByte t.mem a = memByte s.mem a

/-- Exactly the bytes of `v` at an offset of a segment are stored, and every other byte of memory reads as before. -/
def StoresAt (s t : State) (r : SReg) (w : Width) (off : BitVec 32) (v : BitVec w.bits) : Prop :=
  ∃ ps, s.physAddrs .write s.user w.bytes (s.linear r off) = .ok ps ∧
    t.mem = memSetBytes s.mem ps (leBytes w.bytes v.toNat) ∧ ∀ a, a ∉ ps → memByte t.mem a = memByte s.mem a

end Sys2Proof.Machine
end

