-- ==== Sys2Proof/Certificates/Slice0/Obligations.lean ====
section
/-! DEFINITION. Certificates/Slice0/Obligations.lean: the statements for the provers. -/

/-! ### Vocabulary: groups of instructions of one shape -/

namespace Sys2Proof.Claims

open Sys2Proof.Machine

/-- An instruction with the width it works at and the value of its source operand. -/
structure Form where
  instr : Instr
  width : Width
  src : BitVec width.bits

/-- The forms of an arithmetic or logic operation whose left operand is r/m (R216). -/
def rmForms (op : AluOp) (s : State) (rm : RM) (r : Reg) (i8 : BitVec 8) (iv : VImm) : List Form :=
  let v := s.opSize.width
  match op with
  | .add => [⟨.addRm8R8 rm r, .b8, s.reg .b8 r⟩, ⟨.addRmvRv rm r, v, s.reg v r⟩, ⟨.addRm8Imm8 rm i8, .b8, i8⟩,
      ⟨.addRmvImmv rm iv, v, iv.at v⟩, ⟨.addRmvImm8 rm i8, v, immSext v i8⟩]
  | .or => [⟨.orRm8R8 rm r, .b8, s.reg .b8 r⟩, ⟨.orRmvRv rm r, v, s.reg v r⟩, ⟨.orRm8Imm8 rm i8, .b8, i8⟩,
      ⟨.orRmvImmv rm iv, v, iv.at v⟩, ⟨.orRmvImm8 rm i8, v, immSext v i8⟩]
  | .adc => [⟨.adcRm8R8 rm r, .b8, s.reg .b8 r⟩, ⟨.adcRmvRv rm r, v, s.reg v r⟩, ⟨.adcRm8Imm8 rm i8, .b8, i8⟩,
      ⟨.adcRmvImmv rm iv, v, iv.at v⟩, ⟨.adcRmvImm8 rm i8, v, immSext v i8⟩]
  | .sbb => [⟨.sbbRm8R8 rm r, .b8, s.reg .b8 r⟩, ⟨.sbbRmvRv rm r, v, s.reg v r⟩, ⟨.sbbRm8Imm8 rm i8, .b8, i8⟩,
      ⟨.sbbRmvImmv rm iv, v, iv.at v⟩, ⟨.sbbRmvImm8 rm i8, v, immSext v i8⟩]
  | .and => [⟨.andRm8R8 rm r, .b8, s.reg .b8 r⟩, ⟨.andRmvRv rm r, v, s.reg v r⟩, ⟨.andRm8Imm8 rm i8, .b8, i8⟩,
      ⟨.andRmvImmv rm iv, v, iv.at v⟩, ⟨.andRmvImm8 rm i8, v, immSext v i8⟩]
  | .sub => [⟨.subRm8R8 rm r, .b8, s.reg .b8 r⟩, ⟨.subRmvRv rm r, v, s.reg v r⟩, ⟨.subRm8Imm8 rm i8, .b8, i8⟩,
      ⟨.subRmvImmv rm iv, v, iv.at v⟩, ⟨.subRmvImm8 rm i8, v, immSext v i8⟩]
  | .xor => [⟨.xorRm8R8 rm r, .b8, s.reg .b8 r⟩, ⟨.xorRmvRv rm r, v, s.reg v r⟩, ⟨.xorRm8Imm8 rm i8, .b8, i8⟩,
      ⟨.xorRmvImmv rm iv, v, iv.at v⟩, ⟨.xorRmvImm8 rm i8, v, immSext v i8⟩]
  | .cmp => [⟨.cmpRm8R8 rm r, .b8, s.reg .b8 r⟩, ⟨.cmpRmvRv rm r, v, s.reg v r⟩, ⟨.cmpRm8Imm8 rm i8, .b8, i8⟩,
      ⟨.cmpRmvImmv rm iv, v, iv.at v⟩, ⟨.cmpRmvImm8 rm i8, v, immSext v i8⟩]

/-- The forms of an operation with a register on the left and r/m on the right, with their width (R216). -/
def regForms (op : AluOp) (s : State) (r : Reg) (rm : RM) : List (Instr × Width) :=
  let v := s.opSize.width
  match op with
  | .add => [(.addR8Rm8 r rm, .b8), (.addRvRmv r rm, v)]
  | .or => [(.orR8Rm8 r rm, .b8), (.orRvRmv r rm, v)]
  | .adc => [(.adcR8Rm8 r rm, .b8), (.adcRvRmv r rm, v)]
  | .sbb => [(.sbbR8Rm8 r rm, .b8), (.sbbRvRmv r rm, v)]
  | .and => [(.andR8Rm8 r rm, .b8), (.andRvRmv r rm, v)]
  | .sub => [(.subR8Rm8 r rm, .b8), (.subRvRmv r rm, v)]
  | .xor => [(.xorR8Rm8 r rm, .b8), (.xorRvRmv r rm, v)]
  | .cmp => [(.cmpR8Rm8 r rm, .b8), (.cmpRvRmv r rm, v)]

/-- The forms of an operation on the accumulator and an immediate (R216). -/
def accForms (op : AluOp) (s : State) (i8 : BitVec 8) (iv : VImm) : List Form :=
  let v := s.opSize.width
  match op with
  | .add => [⟨.addAlImm8 i8, .b8, i8⟩, ⟨.addEaxImmv iv, v, iv.at v⟩]
  | .or => [⟨.orAlImm8 i8, .b8, i8⟩, ⟨.orEaxImmv iv, v, iv.at v⟩]
  | .adc => [⟨.adcAlImm8 i8, .b8, i8⟩, ⟨.adcEaxImmv iv, v, iv.at v⟩]
  | .sbb => [⟨.sbbAlImm8 i8, .b8, i8⟩, ⟨.sbbEaxImmv iv, v, iv.at v⟩]
  | .and => [⟨.andAlImm8 i8, .b8, i8⟩, ⟨.andEaxImmv iv, v, iv.at v⟩]
  | .sub => [⟨.subAlImm8 i8, .b8, i8⟩, ⟨.subEaxImmv iv, v, iv.at v⟩]
  | .xor => [⟨.xorAlImm8 i8, .b8, i8⟩, ⟨.xorEaxImmv iv, v, iv.at v⟩]
  | .cmp => [⟨.cmpAlImm8 i8, .b8, i8⟩, ⟨.cmpEaxImmv iv, v, iv.at v⟩]

/-- The forms of TEST with an r/m operand, and the value it is tested against (R439). -/
def testForms (s : State) (rm : RM) (r : Reg) (i8 : BitVec 8) (iv : VImm) : List Form :=
  let v := s.opSize.width
  [⟨.testRm8R8 rm r, .b8, s.reg .b8 r⟩, ⟨.testRmvRv rm r, v, s.reg v r⟩, ⟨.testRm8Imm8 rm i8, .b8, i8⟩,
   ⟨.testRmvImmv rm iv, v, iv.at v⟩]

/-- The prefix of the LOCK and repeat group that a read-modify-write takes: none, or LOCK on a memory operand (R343). -/
def LockFits (s : State) (rm : RM) : Prop := s.plain ∨ (s.seq.pfx.group = some .lock ∧ ∃ ea, rm = .mem ea)

/-- The flags after an operation on `a` and `b` (R34): those of the sum or the difference, or of the logic result with
AF free. -/
def OpFlags {n : Nat} (op : AluOp) (f g : Flags) (a b : BitVec n) : Prop :=
  match op with
  | .add => g = f.add a b false
  | .adc => g = f.add a b f.cf
  | .sub => g = f.sub a b false
  | .cmp => g = f.sub a b false
  | .sbb => g = f.sub a b f.cf
  | .or => g = { f.logic (a ||| b) with af := g.af }
  | .and => g = { f.logic (a &&& b) with af := g.af }
  | .xor => g = { f.logic (a ^^^ b) with af := g.af }

end Sys2Proof.Claims

open Sys2Proof Sys2Proof.Machine Sys2Proof.Claims

/-! ### Arithmetic and logic -/

/-- R34: FlagsAdd and FlagsSub in the integers. CF is the carry out or the borrow, OF says that the signed result is out of
range, AF is the carry out of or the borrow into bit 3, ZF, SF and PF are those of the result; no other flag changes. -/
def Obligations.FlagsOfSumAndDifference : Prop :=
  (∀ (w : Width) (f : Flags) (a b : BitVec w.bits) (c : Bool),
     let g := f.add a b c
     let r := a + b + BitVec.ofNat w.bits c.toNat
     (r.toNat = (a.toNat + b.toNat + c.toNat) % 2 ^ w.bits) ∧
     (g.cf = true ↔ 2 ^ w.bits ≤ a.toNat + b.toNat + c.toNat) ∧
     (g.ofl = true ↔ r.toInt ≠ a.toInt + b.toInt + c.toNat) ∧
     (g.af = true ↔ 16 ≤ a.toNat % 16 + b.toNat % 16 + c.toNat) ∧
     (g.zf = true ↔ r.toNat = 0) ∧ (g.sf = true ↔ r.toInt < 0) ∧
     (g.pf = true ↔ ((List.range 8).filter fun k => r.getLsbD k).length % 2 = 0) ∧
     f.sameControl g) ∧
  (∀ (w : Width) (f : Flags) (a b : BitVec w.bits) (c : Bool),
     let g := f.sub a b c
     let r := a - b - BitVec.ofNat w.bits c.toNat
     ((r.toNat : Int) = ((a.toNat : Int) - b.toNat - c.toNat) % 2 ^ w.bits) ∧
     (g.cf = true ↔ a.toNat < b.toNat + c.toNat) ∧
     (g.ofl = true ↔ r.toInt ≠ a.toInt - b.toInt - c.toNat) ∧
     (g.af = true ↔ a.toNat % 16 < b.toNat % 16 + c.toNat) ∧
     (g.zf = true ↔ r.toNat = 0) ∧ (g.sf = true ↔ r.toInt < 0) ∧
     (g.pf = true ↔ ((List.range 8).filter fun k => r.getLsbD k).length % 2 = 0) ∧
     f.sameControl g)

/-- R216, R34: ADD, OR, ADC, SBB, AND, SUB and XOR. On an r/m operand that can be read and written the result is stored
there; on a register and a readable r/m operand, and on the accumulator and an immediate, it is written to the register.
The flags are those of the operation, and nothing else changes. -/
def Obligations.ArithmeticStoresResultAndFlags : Prop :=
  (∀ (op : AluOp) (s : State) (rm : RM) (r : Reg) (i8 : BitVec 8) (iv : VImm), op ≠ .cmp → LockFits s rm →
     ∀ i ∈ rmForms op s rm r i8 iv, ∀ a, s.readDest i.width rm = .ok a →
       ∃ t, exec i.instr s = .next t ∧ Stores s t i.width rm (op.result a i.src s.flags.cf) ∧
         OpFlags op s.flags t.flags a i.src ∧ Kept s t) ∧
  (∀ (op : AluOp) (s : State), op ≠ .cmp → s.plain →
     (∀ r rm, ∀ i ∈ regForms op s r rm, ∀ b, s.readRM i.2 rm = .ok b →
       ∃ t, exec i.1 s = .next t ∧ t.gpr = s.gpr.write i.2 r (op.result (s.reg i.2 r) b s.flags.cf) ∧
         OpFlags op s.flags t.flags (s.reg i.2 r) b ∧ Kept s t ∧ SameMem s t) ∧
     (∀ i8 iv, ∀ i ∈ accForms op s i8 iv,
       ∃ t, exec i.instr s = .next t ∧
         t.gpr = s.gpr.write i.width .eax (op.result (s.reg i.width .eax) i.src s.flags.cf) ∧
         OpFlags op s.flags t.flags (s.reg i.width .eax) i.src ∧ Kept s t ∧ SameMem s t))

/-- R246, R439: CMP sets the flags of the difference and TEST those of the AND; both change nothing else, and need only
to read an r/m operand. -/
def Obligations.CompareAndTestOnlySetFlags : Prop :=
  ∀ (s : State), s.plain →
    (∀ rm r i8 iv, ∀ i ∈ rmForms .cmp s rm r i8 iv, ∀ a, s.readRM i.width rm = .ok a →
      ∃ t, exec i.instr s = .next t ∧ t.flags = s.flags.sub a i.src false ∧ t.gpr = s.gpr ∧ Kept s t ∧ SameMem s t) ∧
    (∀ r rm, ∀ i ∈ regForms .cmp s r rm, ∀ b, s.readRM i.2 rm = .ok b →
      ∃ t, exec i.1 s = .next t ∧ t.flags = s.flags.sub (s.reg i.2 r) b false ∧ t.gpr = s.gpr ∧ Kept s t ∧
        SameMem s t) ∧
    (∀ i8 iv, ∀ i ∈ accForms .cmp s i8 iv,
      ∃ t, exec i.instr s = .next t ∧ t.flags = s.flags.sub (s.reg i.width .eax) i.src false ∧ t.gpr = s.gpr ∧
        Kept s t ∧ SameMem s t) ∧
    (∀ rm r i8 iv, ∀ i ∈ testForms s rm r i8 iv, ∀ a, s.readRM i.width rm = .ok a →
      ∃ t, exec i.instr s = .next t ∧ t.flags = { s.flags.logic (a &&& i.src) with af := t.flags.af } ∧
        t.gpr = s.gpr ∧ Kept s t ∧ SameMem s t) ∧
    (∀ i8 iv, ∀ i ∈ ([⟨.testAlImm8 i8, .b8, i8⟩, ⟨.testEaxImmv iv, s.opSize.width, iv.at s.opSize.width⟩] : List Form),
      ∃ t, exec i.instr s = .next t ∧
        t.flags = { s.flags.logic (s.reg i.width .eax &&& i.src) with af := t.flags.af } ∧ t.gpr = s.gpr ∧ Kept s t ∧
        SameMem s t)

/-- R275, R251: INC and DEC add and subtract 1 with the flags of ADD and SUB but CF unchanged; R366: NEG subtracts from
0 with the flags of SUB; R370: NOT inverts every bit and changes no flag. -/
def Obligations.UnaryOperationsStoreResult : Prop :=
  ∀ (s : State) (rm : RM) (q : Reg),
    (∀ i ∈ [(Instr.incRm8 rm, Width.b8, rm), (.incRmv rm, s.opSize.width, rm), (.incRv q, s.opSize.width, .reg q)],
      LockFits s i.2.2 → ∀ a, s.readDest i.2.1 i.2.2 = .ok a → ∃ t, exec i.1 s = .next t ∧ Stores s t i.2.1 i.2.2 (a + 1) ∧
        t.flags = { s.flags.add a 1 false with cf := s.flags.cf } ∧ Kept s t) ∧
    (∀ i ∈ [(Instr.decRm8 rm, Width.b8, rm), (.decRmv rm, s.opSize.width, rm), (.decRv q, s.opSize.width, .reg q)],
      LockFits s i.2.2 → ∀ a, s.readDest i.2.1 i.2.2 = .ok a → ∃ t, exec i.1 s = .next t ∧ Stores s t i.2.1 i.2.2 (a - 1) ∧
        t.flags = { s.flags.sub a 1 false with cf := s.flags.cf } ∧ Kept s t) ∧
    (∀ i ∈ [(Instr.negRm8 rm, Width.b8), (.negRmv rm, s.opSize.width)],
      LockFits s rm → ∀ a, s.readDest i.2 rm = .ok a → ∃ t, exec i.1 s = .next t ∧ Stores s t i.2 rm (0 - a) ∧
        t.flags = s.flags.sub 0 a false ∧ Kept s t) ∧
    (∀ i ∈ [(Instr.notRm8 rm, Width.b8), (.notRmv rm, s.opSize.width)],
      LockFits s rm → ∀ a, s.readDest i.2 rm = .ok a → ∃ t, exec i.1 s = .next t ∧ Stores s t i.2 rm (~~~a) ∧
        t.flags = s.flags ∧ Kept s t)

/-! ### Shifts, rotates and bits -/

namespace Sys2Proof.Claims

open Sys2Proof.Machine

/-- The forms of a shift or rotate, with their width (R396, R421). -/
def shiftForms (op : ShiftOp) (s : State) (rm : RM) (c : Count) : List (Instr × Width) :=
  let v := s.opSize.width
  match op with
  | .rol => [(.rolRm8 rm c, .b8), (.rolRmv rm c, v)]
  | .ror => [(.rorRm8 rm c, .b8), (.rorRmv rm c, v)]
  | .rcl => [(.rclRm8 rm c, .b8), (.rclRmv rm c, v)]
  | .rcr => [(.rcrRm8 rm c, .b8), (.rcrRmv rm c, v)]
  | .shl => [(.shlRm8 rm c, .b8), (.shlRmv rm c, v)]
  | .shr => [(.shrRm8 rm c, .b8), (.shrRmv rm c, v)]
  | .sar => [(.sarRm8 rm c, .b8), (.sarRmv rm c, v)]

/-- The count of a shift: the low five bits of the second operand (R396, R421). -/
def maskedCount (s : State) : Count → Nat
  | .imm n => (n &&& 31).toNat
  | .one => 1
  | .cl => ((s.gpr.ecx.setWidth 8) &&& 31).toNat

/-- SF, ZF and PF are those of a result (R34). -/
def ResultFlags {n : Nat} (g : Flags) (r : BitVec n) : Prop := g.zf = (r == 0) ∧ g.sf = r.msb ∧ g.pf = parityEven r

/-- The flags after a shift or rotate by `k`, from 1 to 31, of `a` to `r` with carry out `c` (R396, R421): OF is given for
a single shift only, and AF of a shift is undefined. -/
def ShiftFlags {n : Nat} (op : ShiftOp) (k : Nat) (f g : Flags) (a r : BitVec n) (c : Bool) : Prop :=
  g.cf = c ∧ f.sameControl g ∧
    (k = 1 → g.ofl = match op with
      | .rol => r.msb ^^ c
      | .rcl => r.msb ^^ c
      | .shl => r.msb ^^ c
      | .ror => r.msb ^^ r.getMsbD 1
      | .rcr => r.msb ^^ r.getMsbD 1
      | .shr => a.msb
      | .sar => false) ∧
    match op with
    | .rol | .ror | .rcl | .rcr => g.zf = f.zf ∧ g.sf = f.sf ∧ g.pf = f.pf ∧ g.af = f.af
    | .shl | .shr | .sar => ResultFlags g r

/-- The double shifts with their count (R429, R430); `true` for SHLD. -/
def doubleForms (left : Bool) (s : State) (rm : RM) (r : Reg) (i8 : BitVec 8) : List (Instr × Nat) :=
  if left then [(.shldImm8 rm r i8, (i8 &&& 31).toNat), (.shldCl rm r, maskedCount s .cl)]
  else [(.shrdImm8 rm r i8, (i8 &&& 31).toNat), (.shrdCl rm r, maskedCount s .cl)]

/-- A bit test with an immediate bit offset (R211 to R215). -/
def bitImmForm (op : BitOp) (rm : RM) (i8 : BitVec 8) : Instr :=
  match op with
  | .test => .btRmvImm8 rm i8
  | .set => .btsRmvImm8 rm i8
  | .reset => .btrRmvImm8 rm i8
  | .complement => .btcRmvImm8 rm i8

/-- A bit test with a register bit offset (R211 to R215). -/
def bitRegForm (op : BitOp) (rm : RM) (r : Reg) : Instr :=
  match op with
  | .test => .btRmvRv rm r
  | .set => .btsRmvRv rm r
  | .reset => .btrRmvRv rm r
  | .complement => .btcRmvRv rm r

/-- Bit `k` of `b` is what the operation makes of it in `a`, and every other bit is the same (R211 to R215). -/
def BitChanged {n : Nat} (op : BitOp) (k : Nat) (a b : BitVec n) : Prop :=
  (b.getLsbD k = match op with
    | .test => a.getLsbD k
    | .set => true
    | .reset => false
    | .complement => !a.getLsbD k) ∧
  ∀ j, j ≠ k → b.getLsbD j = a.getLsbD j

/-- The flags after a bit test: CF is the bit, and the other five are undefined. -/
def BitFlags (f g : Flags) (b : Bool) : Prop := g.cf = b ∧ f.sameControl g

/-- The condition of a four-bit subcode (R35). -/
def Condition (f : Flags) : Nat → Prop
  | 0 => f.ofl = true
  | 1 => f.ofl = false
  | 2 => f.cf = true
  | 3 => f.cf = false
  | 4 => f.zf = true
  | 5 => f.zf = false
  | 6 => f.cf = true ∨ f.zf = true
  | 7 => f.cf = false ∧ f.zf = false
  | 8 => f.sf = true
  | 9 => f.sf = false
  | 10 => f.pf = true
  | 11 => f.pf = false
  | 12 => f.sf ≠ f.ofl
  | 13 => f.sf = f.ofl
  | 14 => f.sf ≠ f.ofl ∨ f.zf = true
  | _ => f.sf = f.ofl ∧ f.zf = false

/-- SETcc with its condition subcode (R427). -/
def setForms (rm : RM) : List (Nat × Instr) :=
  [(0, .seto rm), (1, .setno rm), (2, .setb rm), (3, .setnb rm), (4, .setz rm), (5, .setnz rm), (6, .setbe rm),
   (7, .setnbe rm), (8, .sets rm), (9, .setns rm), (10, .setp rm), (11, .setnp rm), (12, .setl rm), (13, .setnl rm),
   (14, .setle rm), (15, .setnle rm)]

end Sys2Proof.Claims

/-- R396, R421: a shift or rotate of an operand that can be read and written, by its masked count. A count of 0 leaves
all but OF as it is; another stores what the loop of that many passes gives, with the flags of the rules. -/
def Obligations.ShiftsAndRotatesStoreLoopResult : Prop :=
  ∀ (op : ShiftOp) (s : State) (rm : RM) (c : Count), s.plain → ∀ i ∈ shiftForms op s rm c,
    ∀ a, s.readDest i.2 rm = .ok a →
      (maskedCount s c = 0 →
        ∃ t, exec i.1 s = .next t ∧ t.flags = { s.flags with ofl := t.flags.ofl } ∧ t.gpr = s.gpr ∧ Kept s t ∧
          SameMem s t) ∧
      (maskedCount s c ≠ 0 →
        ∃ t, exec i.1 s = .next t ∧ Stores s t i.2 rm (op.loop (maskedCount s c) a s.flags.cf).1 ∧
          ShiftFlags op (maskedCount s c) s.flags t.flags a (op.loop (maskedCount s c) a s.flags.cf).1
            (op.loop (maskedCount s c) a s.flags.cf).2 ∧ Kept s t)

/-- R397 to R400, R421: what the loops compute. Shifts are shifts by the count with the last bit shifted out in CF,
rotates are rotations with the bit that went round in CF, and RCL and RCR rotate CF and the operand together. -/
def Obligations.ShiftLoopsAreShiftsAndRotations : Prop :=
  ∀ (w : Width) (k : Nat) (a : BitVec w.bits) (cf : Bool), 1 ≤ k → k ≤ 31 →
    (ShiftOp.shl.loop k a cf = (a <<< k, decide (k ≤ w.bits) && a.getLsbD (w.bits - k))) ∧
    (ShiftOp.shr.loop k a cf = (a >>> k, a.getLsbD (k - 1))) ∧
    (ShiftOp.sar.loop k a cf = (a.sshiftRight k, (a.sshiftRight (k - 1)).getLsbD 0)) ∧
    (ShiftOp.rol.loop k a cf = (a.rotateLeft k, (a.rotateLeft k).getLsbD 0)) ∧
    (ShiftOp.ror.loop k a cf = (a.rotateRight k, (a.rotateRight k).msb)) ∧
    (let p := ShiftOp.rcl.loop k a cf
     BitVec.cons p.2 p.1 = (BitVec.cons cf a).rotateLeft k) ∧
    (let p := ShiftOp.rcr.loop k a cf
     BitVec.cons p.2 p.1 = (BitVec.cons cf a).rotateRight k)

/-- R429, R430: SHLD and SHRD. A count of 0 changes nothing; below the width the destination takes in bits of the
register, with CF the last bit shifted out; a count of the width or more leaves the destination and the six flags
undefined. -/
def Obligations.DoubleShiftsTakeInRegisterBits : Prop :=
  ∀ (left : Bool) (s : State) (rm : RM) (r : Reg) (i8 : BitVec 8), s.plain → ∀ i ∈ doubleForms left s rm r i8,
    let w := s.opSize.width
    ∀ a, s.readDest w rm = .ok a →
      (i.2 = 0 → ∃ t, exec i.1 s = .next t ∧ t.flags = s.flags ∧ t.gpr = s.gpr ∧ Kept s t ∧ SameMem s t) ∧
      (0 < i.2 → i.2 < w.bits → ∃ t v, exec i.1 s = .next t ∧ Stores s t w rm v ∧ Kept s t ∧
        v = (if left then a <<< i.2 ||| s.reg w r >>> (w.bits - i.2) else a >>> i.2 ||| s.reg w r <<< (w.bits - i.2)) ∧
        t.flags.cf = a.getLsbD (if left then w.bits - i.2 else i.2 - 1) ∧ ResultFlags t.flags v ∧
        s.flags.sameControl t.flags) ∧
      (w.bits ≤ i.2 → ∃ t v, exec i.1 s = .next t ∧ Stores s t w rm v ∧ Kept s t ∧ s.flags.sameControl t.flags)

/-- R211 to R215, R213: BT, BTS, BTR, BTC. CF gets the bit; BTS, BTR and BTC change that bit only. In a register the bit
offset is taken modulo the operand size. In memory an immediate offset selects a bit of the operand itself and a
register offset, signed, reaches the unit that many bits away. -/
def Obligations.BitTestsSelectAndChangeOneBit : Prop :=
  ∀ (op : BitOp) (s : State), let w := s.opSize.width
    (∀ q i8 r, s.plain → ∀ i ∈ [(bitImmForm op (.reg q) i8, i8.toNat % w.bits),
        (bitRegForm op (.reg q) r, (s.reg w r).toNat % w.bits)],
      ∃ t v, exec i.1 s = .next t ∧ t.gpr = s.gpr.write w q v ∧ BitChanged op i.2 (s.reg w q) v ∧
        BitFlags s.flags t.flags ((s.reg w q).getLsbD i.2) ∧ Kept s t ∧ SameMem s t) ∧
    (∀ ea i8 r, LockFits s (.mem ea) → ∀ i ∈ [(bitImmForm op (.mem ea) i8, i8.toNat % w.bits, s.eaOff ea),
        (bitRegForm op (.mem ea) r, (s.reg w r).toNat % w.bits,
          addOffset s.addrSize (s.eaOff ea) (BitVec.ofInt 32 (w.bytes * ((s.reg w r).toInt / w.bits))))],
      ∀ a, s.memRead (s.eaSeg ea) w i.2.2 = .ok a →
        (op = .test → ∃ t, exec i.1 s = .next t ∧ BitFlags s.flags t.flags (a.getLsbD i.2.1) ∧ t.gpr = s.gpr ∧
          Kept s t ∧ SameMem s t) ∧
        (op ≠ .test → s.writeCheck (s.eaSeg ea) i.2.2 w.bytes = .ok () →
          ∃ t v, exec i.1 s = .next t ∧ StoresAt s t (s.eaSeg ea) w i.2.2 v ∧ BitChanged op i.2.1 a v ∧
            BitFlags s.flags t.flags (a.getLsbD i.2.1) ∧ t.gpr = s.gpr ∧ Kept s t))

/-- R209, R210: BSF and BSR. A zero source sets ZF and leaves the destination undefined; another clears ZF and gives the
index of the lowest or the highest set bit. The other five flags are undefined. -/
def Obligations.BitScansFindLowestAndHighest : Prop :=
  ∀ (s : State) (r : Reg) (rm : RM), s.plain → ∀ v, s.readRM s.opSize.width rm = .ok v →
    (v = 0 → ∀ i ∈ [Instr.bsf r rm, .bsr r rm], ∃ t x, exec i s = .next t ∧ t.flags.zf = true ∧
      s.flags.sameControl t.flags ∧ t.gpr = s.gpr.write s.opSize.width r x ∧ Kept s t ∧ SameMem s t) ∧
    (v ≠ 0 →
      (∃ t k, exec (.bsf r rm) s = .next t ∧ v.getLsbD k = true ∧ (∀ j < k, v.getLsbD j = false) ∧
        t.flags.zf = false ∧ s.flags.sameControl t.flags ∧
        t.gpr = s.gpr.write s.opSize.width r (BitVec.ofNat _ k) ∧ Kept s t ∧ SameMem s t) ∧
      (∃ t k, exec (.bsr r rm) s = .next t ∧ v.getLsbD k = true ∧ (∀ j > k, v.getLsbD j = false) ∧
        t.flags.zf = false ∧ s.flags.sameControl t.flags ∧
        t.gpr = s.gpr.write s.opSize.width r (BitVec.ofNat _ k) ∧ Kept s t ∧ SameMem s t))

/-- R427, R35: SETcc stores 1 in the byte if the condition holds and 0 if not, and changes no flag. -/
def Obligations.SetOnConditionStoresOneOrZero : Prop :=
  ∀ (s : State) (rm : RM), s.plain → s.checkRM .b8 rm = .ok () → ∀ i ∈ setForms rm,
    (Condition s.flags i.1 → ∃ t, exec i.2 s = .next t ∧ Stores s t .b8 rm 1 ∧ t.flags = s.flags ∧ Kept s t) ∧
    (¬ Condition s.flags i.1 → ∃ t, exec i.2 s = .next t ∧ Stores s t .b8 rm 0 ∧ t.flags = s.flags ∧ Kept s t)

/-! ### Multiplication, division, decimal adjustment -/

namespace Sys2Proof.Claims

open Sys2Proof.Machine

/-- The register of the remainder: AH, DX or EDX (R252, R272). -/
def remReg : Width → Reg
  | .b8 => .esp
  | .w16 => .edx
  | .d32 => .edx

/-- Only AX, DX:AX or EDX:EAX may differ between the general registers of two states, by the width. -/
def OnlyAccumulator (s t : State) (w : Width) : Prop :=
  (∀ r : Reg, r ≠ .eax → r ≠ .edx → t.gpr.get r = s.gpr.get r) ∧
    (w ≠ .d32 → t.gpr.eax.extractLsb' 16 16 = s.gpr.eax.extractLsb' 16 16 ∧
      t.gpr.edx.extractLsb' 16 16 = s.gpr.edx.extractLsb' 16 16) ∧ (w = .b8 → t.gpr.edx = s.gpr.edx)

/-- IMUL into a register, with its two factors besides the destination (R273). -/
def imulForms (s : State) (r : Reg) (rm : RM) (i8 : BitVec 8) (iv : VImm) :
    List (Instr × BitVec s.opSize.width.bits) :=
  [(.imulRvRmv r rm, s.reg _ r), (.imulRvRmvImmv r rm iv, iv.at _), (.imulRvRmvImm8 r rm i8, immSext _ i8)]

/-- An instruction whose body raises an exception: EIP goes back to its first byte and the exception is delivered
(R471, R462). -/
def Raises (i : Instr) (s : State) (x : Exc) : Prop := exec i s = (s.restart.loadCr2 x).deliver deliverFuel x.event

end Sys2Proof.Claims

/-- R365, R273: MUL and IMUL. The product of the accumulator goes to the double-width accumulator, that of the other
forms, cut to the width, to the register; CF and OF say together whether the low half does not hold the product. -/
def Obligations.MultiplicationsGiveFullOrCutProduct : Prop :=
  ∀ (s : State) (rm : RM), s.plain →
    (∀ i ∈ [(Instr.mulRm8 rm, Width.b8), (.mulRmv rm, s.opSize.width)], ∀ b, s.readRM i.2 rm = .ok b →
      ∃ t, exec i.1 s = .next t ∧ t.dividend i.2 = (s.reg i.2 .eax).toNat * b.toNat ∧ OnlyAccumulator s t i.2 ∧
        (t.flags.cf = true ↔ 2 ^ i.2.bits ≤ (s.reg i.2 .eax).toNat * b.toNat) ∧ t.flags.ofl = t.flags.cf ∧
        s.flags.sameControl t.flags ∧ Kept s t ∧ SameMem s t) ∧
    (∀ i ∈ [(Instr.imulRm8 rm, Width.b8), (.imulRmv rm, s.opSize.width)], ∀ b, s.readRM i.2 rm = .ok b →
      ∃ t, exec i.1 s = .next t ∧ t.signedDividend i.2 = (s.reg i.2 .eax).toInt * b.toInt ∧ OnlyAccumulator s t i.2 ∧
        (t.flags.cf = true ↔ (t.reg i.2 .eax).toInt ≠ (s.reg i.2 .eax).toInt * b.toInt) ∧ t.flags.ofl = t.flags.cf ∧
        s.flags.sameControl t.flags ∧ Kept s t ∧ SameMem s t) ∧
    (∀ r i8 iv, ∀ i ∈ imulForms s r rm i8 iv, ∀ a, s.readRM s.opSize.width rm = .ok a →
      ∃ t v, exec i.1 s = .next t ∧ t.gpr = s.gpr.write s.opSize.width r v ∧
        v = BitVec.ofInt _ (a.toInt * i.2.toInt) ∧ (t.flags.cf = true ↔ v.toInt ≠ a.toInt * i.2.toInt) ∧
        t.flags.ofl = t.flags.cf ∧ s.flags.sameControl t.flags ∧ Kept s t ∧ SameMem s t)

/-- R252, R272: DIV and IDIV with a divisor other than 0 and a quotient that fits give quotient and remainder, the signed
quotient truncated toward 0, and leave the six status flags undefined; a divisor of 0 or a quotient that does not fit is
Interrupt 0, with EIP at the division. -/
def Obligations.DivisionsGiveQuotientAndRemainderOrInterrupt0 : Prop :=
  (∀ (s : State) (rm : RM), s.plain →
     (∀ i ∈ [(Instr.divRm8 rm, Width.b8), (.divRmv rm, s.opSize.width)], ∀ d, s.readRM i.2 rm = .ok d → d ≠ 0 →
       s.dividend i.2 / d.toNat < 2 ^ i.2.bits →
       ∃ t, exec i.1 s = .next t ∧ (t.reg i.2 .eax).toNat = s.dividend i.2 / d.toNat ∧
         (t.reg i.2 (remReg i.2)).toNat = s.dividend i.2 % d.toNat ∧ OnlyAccumulator s t i.2 ∧
         s.flags.sameControl t.flags ∧ Kept s t ∧ SameMem s t) ∧
     (∀ i ∈ [(Instr.idivRm8 rm, Width.b8), (.idivRmv rm, s.opSize.width)], ∀ d, s.readRM i.2 rm = .ok d → d ≠ 0 →
       -(2 ^ (i.2.bits - 1) : Int) ≤ (s.signedDividend i.2).tdiv d.toInt →
       (s.signedDividend i.2).tdiv d.toInt < (2 ^ (i.2.bits - 1) : Int) →
       ∃ t, exec i.1 s = .next t ∧ (t.reg i.2 .eax).toInt = (s.signedDividend i.2).tdiv d.toInt ∧
         (t.reg i.2 (remReg i.2)).toInt = (s.signedDividend i.2).tmod d.toInt ∧ OnlyAccumulator s t i.2 ∧
         s.flags.sameControl t.flags ∧ Kept s t ∧ SameMem s t)) ∧
  (∀ (s : State) (rm : RM), s.plain →
     (∀ i ∈ [(Instr.divRm8 rm, Width.b8), (.divRmv rm, s.opSize.width)], ∀ d, s.readRM i.2 rm = .ok d →
       (d = 0 ∨ 2 ^ i.2.bits ≤ s.dividend i.2 / d.toNat) → Raises i.1 s (.plain 0)) ∧
     (∀ i ∈ [(Instr.idivRm8 rm, Width.b8), (.idivRmv rm, s.opSize.width)], ∀ d, s.readRM i.2 rm = .ok d →
       (d = 0 ∨ (s.signedDividend i.2).tdiv d.toInt < -(2 ^ (i.2.bits - 1) : Int) ∨
         (2 ^ (i.2.bits - 1) : Int) ≤ (s.signedDividend i.2).tdiv d.toInt) → Raises i.1 s (.plain 0)))

/-- R200 to R203, R249, R250: AAA, AAS, AAD, AAM, DAA and DAS set AL and AH as their rules say, change no other register,
and set the flags the rules give. -/
def Obligations.DecimalAdjustmentsFollowTheirRules : Prop :=
  ∀ (s : State), s.plain →
    let al := s.reg .b8 .eax
    let ah := s.reg .b8 .esp
    let low := 9 < (al &&& 0x0F).toNat ∨ s.flags.af = true
    let plus6 : BitVec 8 := if s.flags.af = true ∨ 9 < (al &&& 0x0F).toNat then al + 6 else al
    let minus6 : BitVec 8 := if s.flags.af = true ∨ 9 < (al &&& 0x0F).toNat then al - 6 else al
    let done (i : Instr) (al' ah' : BitVec 8) (p : Flags → Prop) : Prop :=
      ∃ t, exec i s = .next t ∧ t.gpr = (s.gpr.write .b8 .eax al').write .b8 .esp ah' ∧ p t.flags ∧
        s.flags.sameControl t.flags ∧ Kept s t ∧ SameMem s t
    (low → done .aaa ((al + 6) &&& 0x0F) (ah + 1) (fun g => g.af = true ∧ g.cf = true) ∧
      done .aas ((al - 6) &&& 0x0F) (ah - 1) (fun g => g.af = true ∧ g.cf = true)) ∧
    (¬ low → done .aaa (al &&& 0x0F) ah (fun g => g.af = false ∧ g.cf = false) ∧
      done .aas (al &&& 0x0F) ah (fun g => g.af = false ∧ g.cf = false)) ∧
    done (.aad 0x0A) (ah * 10 + al) 0 (fun g => ResultFlags g (ah * 10 + al)) ∧
    done (.aam 0x0A) (BitVec.ofNat 8 (al.toNat % 10)) (BitVec.ofNat 8 (al.toNat / 10))
      (fun g => ResultFlags g (BitVec.ofNat 8 (al.toNat % 10))) ∧
    (0x9F < plus6.toNat ∨ s.flags.cf = true →
      done .daa (plus6 + 0x60) ah (fun g => (g.af = true ↔ low) ∧ g.cf = true ∧ ResultFlags g (plus6 + 0x60))) ∧
    (¬ (0x9F < plus6.toNat ∨ s.flags.cf = true) →
      done .daa plus6 ah (fun g => (g.af = true ↔ low) ∧ g.cf = false ∧ ResultFlags g plus6)) ∧
    (0x9F < minus6.toNat ∨ s.flags.cf = true →
      done .das (minus6 - 0x60) ah (fun g => (g.af = true ↔ low) ∧ g.cf = true ∧ ResultFlags g (minus6 - 0x60))) ∧
    (¬ (0x9F < minus6.toNat ∨ s.flags.cf = true) →
      done .das minus6 ah (fun g => (g.af = true ↔ low) ∧ g.cf = false ∧ ResultFlags g minus6))

/-! ### Data movement -/

namespace Sys2Proof.Claims

open Sys2Proof.Machine

/-- The one change is a register written at a width. -/
def Loads (s t : State) (w : Width) (r : Reg) (v : BitVec w.bits) : Prop :=
  t.gpr = s.gpr.write w r v ∧ t.flags = s.flags ∧ Kept s t ∧ SameMem s t

/-- The MOV forms that store into an r/m operand (R360). -/
def storeForms (s : State) (rm : RM) (r : Reg) (i8 : BitVec 8) (iv : VImm) : List Form :=
  let v := s.opSize.width
  [⟨.movRm8R8 rm r, .b8, s.reg .b8 r⟩, ⟨.movRmvRv rm r, v, s.reg v r⟩, ⟨.movRm8Imm8 rm i8, .b8, i8⟩,
   ⟨.movRmvImmv rm iv, v, iv.at v⟩]

/-- One item of `size` pushed: stored below the top of the stack, the stack pointer moved there by its own size, nothing
else changed but the free values taken (R5). -/
def Pushed (s t : State) (size : Size) (v : BitVec size.width.bits) : Prop :=
  StoresAt s t .ss size.width (s.pushOffset size.bytes) v ∧
    t.gpr = (s.setEReg s.stackSize .esp (s.pushOffset size.bytes)).gpr ∧ t.flags = s.flags ∧ Kept s t

/-- The stack segment takes one more item of the operand size. -/
def PushFits (s : State) : Prop :=
  s.writeCheck .ss (s.pushOffset s.opSize.bytes) s.opSize.bytes = .ok ()

/-- One more item of the operand size does not straddle the top of a 64K stack (R393, D18). -/
def NoWrap (s : State) : Prop :=
  s.protectedMode = true ∨ (s.pushOffset s.opSize.bytes).toNat + s.opSize.bytes ≤ 2 ^ 16

/-- MOV into a segment register, by its code. -/
def loadedSegs : List (BitVec 3 × SReg) := [(0, .es), (2, .ss), (3, .ds), (4, .fs), (5, .gs)]

/-- The far loads with the segment register each loads (R340). -/
def farLoads (r : Reg) (rm : RM) : List (Instr × SReg) :=
  [(.lds r rm, .ds), (.les r rm, .es), (.lfs r rm, .fs), (.lgs r rm, .gs), (.lss r rm, .ss)]

/-- POP into a segment register (R390). -/
def popSegs : List (Instr × SReg) := [(.popEs, .es), (.popSs, .ss), (.popDs, .ds), (.popFs, .fs), (.popGs, .gs)]

/-- PUSH of a segment register (R393). -/
def pushSegs : List (Instr × SReg) :=
  [(.pushEs, .es), (.pushCs, .cs), (.pushSs, .ss), (.pushDs, .ds), (.pushFs, .fs), (.pushGs, .gs)]

end Sys2Proof.Claims

/-- R360: MOV to an operand that can be written stores its source there and changes nothing else. -/
def Obligations.MovesStoreTheirSource : Prop :=
  ∀ (s : State), s.plain →
    (∀ rm r i8 iv, ∀ i ∈ storeForms s rm r i8 iv, s.checkRM i.width rm = .ok () →
      ∃ t, exec i.instr s = .next t ∧ Stores s t i.width rm i.src ∧ t.flags = s.flags ∧ Kept s t) ∧
    (∀ off : VImm, ∀ i ∈ [(Instr.movMoffsAl off, Width.b8), (.movMoffsEax off, s.opSize.width)],
      s.writeCheck (s.dataSeg .ds) off.zext i.2.bytes = .ok () →
      ∃ t, exec i.1 s = .next t ∧ StoresAt s t (s.dataSeg .ds) i.2 off.zext (s.reg i.2 .eax) ∧ t.gpr = s.gpr ∧
        t.flags = s.flags ∧ Kept s t)

/-- R360, R363, R364, R332, R443, R240, R248: loads into a register. MOV, MOVZX and MOVSX keep the value of a readable
source, LEA loads the address, XLAT a byte of the table, CBW and CWD extend the accumulator's sign. -/
def Obligations.LoadsWriteOneRegister : Prop :=
  ∀ (s : State), s.plain → let v := s.opSize.width
    (∀ r rm, ∀ i ∈ [(Instr.movR8Rm8 r rm, Width.b8), (.movRvRmv r rm, v)], ∀ a, s.readRM i.2 rm = .ok a →
      ∃ t, exec i.1 s = .next t ∧ Loads s t i.2 r a) ∧
    (∀ r i8 iv, (∃ t, exec (.movR8Imm8 r i8) s = .next t ∧ Loads s t .b8 r i8) ∧
      ∃ t, exec (.movRvImmv r iv) s = .next t ∧ Loads s t v r (iv.at v)) ∧
    (∀ off : VImm, ∀ i ∈ [(Instr.movAlMoffs off, Width.b8), (.movEaxMoffs off, v)],
      ∀ a, s.memRead (s.dataSeg .ds) i.2 off.zext = .ok a → ∃ t, exec i.1 s = .next t ∧ Loads s t i.2 .eax a) ∧
    (∀ r rm, ∀ i ∈ [(Instr.movzxRm8 r rm, Width.b8), (.movzxRm16 r rm, .w16)], ∀ a, s.readRM i.2 rm = .ok a →
      ∃ t x, exec i.1 s = .next t ∧ Loads s t v r x ∧ x.toNat = a.toNat) ∧
    (∀ r rm, ∀ i ∈ [(Instr.movsxRm8 r rm, Width.b8), (.movsxRm16 r rm, .w16)], ∀ a, s.readRM i.2 rm = .ok a →
      ∃ t x, exec i.1 s = .next t ∧ Loads s t v r x ∧ x.toInt = a.toInt) ∧
    (∀ r ea, ∃ t x, exec (.lea r (.mem ea)) s = .next t ∧ Loads s t v r x ∧ x = (s.eaOff ea).setWidth _) ∧
    (∀ a, s.memRead (s.dataSeg .ds) .b8
        (addOffset s.addrSize (s.eReg s.addrSize .ebx) ((s.reg .b8 .eax).setWidth 32)) = .ok a →
      ∃ t, exec .xlat s = .next t ∧ Loads s t .b8 .eax a) ∧
    (∃ t x, exec .cbw s = .next t ∧ Loads s t v .eax x ∧
      x.toInt = (if s.opSize = .s16 then (s.reg .b8 .eax).toInt else (s.reg .w16 .eax).toInt)) ∧
    (∃ t x, exec .cwd s = .next t ∧ Loads s t v .edx x ∧ x.toInt = if (s.reg v .eax).toInt < 0 then -1 else 0)

/-- R442, R369: XCHG swaps a register with another or with an operand that can be read and written; NOP does nothing. -/
def Obligations.ExchangesSwapTheirOperands : Prop :=
  ∀ (s : State) (r : Reg), let v := s.opSize.width
    (∀ q, s.plain → ∀ i ∈ [(Instr.xchgRm8R8 (.reg q) r, Width.b8, q, r), (.xchgRmvRv (.reg q) r, v, q, r),
        (.xchgEaxRv r, v, r, .eax)],
      ∃ t, exec i.1 s = .next t ∧ t.flags = s.flags ∧ Kept s t ∧ SameMem s t ∧
        t.gpr = (s.gpr.write i.2.1 i.2.2.1 (s.reg i.2.1 i.2.2.2)).write i.2.1 i.2.2.2 (s.reg i.2.1 i.2.2.1)) ∧
    (∀ ea, LockFits s (.mem ea) → ∀ i ∈ [(Instr.xchgRm8R8 (.mem ea) r, Width.b8), (.xchgRmvRv (.mem ea) r, v)],
      ∀ a, s.readDest i.2 (.mem ea) = .ok a →
      ∃ t, exec i.1 s = .next t ∧ t.gpr = s.gpr.write i.2 r a ∧
        StoresAt s t (s.eaSeg ea) i.2 (s.eaOff ea) (s.reg i.2 r) ∧ t.flags = s.flags ∧ Kept s t) ∧
    (s.plain → exec .nop s = .next s)

/-! ### Segment registers -/

/-- R99: outside Protected Mode a load of a segment register sets its base to 16 times the selector and its limit to FFFFH,
with no check. R97, R98: in Protected Mode a data segment register takes a null selector, or a readable segment that CPL
and RPL may use and that is present; SS takes a present writable data segment of CPL. The first failing check raises its
exception, a null selector of SS #GP(0) and a selector beyond its table #GP(selector). -/
def Obligations.SegmentLoadsCheckTheirSelector : Prop :=
  (∀ (s : State) (r : SReg) (sel : BitVec 16), s.protectedMode = false →
     ∃ g, s.loadSeg r sel = .ok (s.setSeg r g) ∧ g.sel = sel ∧ g.valid = true ∧ g.base.toNat = 16 * sel.toNat ∧
       g.limit.toNat = 0xFFFF) ∧
  (∀ (s : State) (r : SReg) (sel : BitVec 16), s.protectedMode = true →
     let e := sel &&& 0xFFFC
     (r ≠ .ss → e = 0 → ∃ g, s.loadSeg r sel = .ok (s.setSeg r g) ∧ g.sel = sel ∧ g.valid = false) ∧
     (r = .ss → e = 0 → s.loadSeg r sel = raise (excGP 0)) ∧
     (e ≠ 0 → s.descOf? sel = .ok none → s.loadSeg r sel = raise (excGP e)) ∧
     (∀ d, r ≠ .ss → e ≠ 0 → s.descOf? sel = .ok (some d) →
       s.loadSeg r sel =
         if ¬ (d.isData ∨ (d.isCode ∧ d.rw)) then raise (excGP e)
         else if ¬ ((d.isCode ∧ d.ce) ∨ (rpl sel ≤ d.dpl ∧ s.cpl ≤ d.dpl)) then raise (excGP e)
         else if ¬ d.present then raise (excNP e)
         else .ok (s.setSeg r (d.toSeg sel))) ∧
     (∀ d, r = .ss → e ≠ 0 → s.descOf? sel = .ok (some d) →
       s.loadSeg r sel =
         if ¬ (rpl sel = s.cpl ∧ d.isData ∧ d.rw ∧ d.dpl = s.cpl) then raise (excGP e)
         else if ¬ d.present then raise (excSS e)
         else .ok (s.setSeg r (d.toSeg sel))))

/-- R367, R390, R340, R48: MOV, POP and the far loads put in a segment register what the checks of its selector give;
MOV SS and POP SS inhibit interrupts for the next instruction; MOV to CS is #UD. -/
def Obligations.SegmentRegisterLoadsTakeCheckedSelector : Prop :=
  ∀ (s : State) (rm : RM), s.plain →
    (∀ i ∈ loadedSegs, ∀ sel g, s.readRM .w16 rm = .ok sel → s.checkSeg i.2 sel = .ok g →
      exec (.movSregRm i.1 rm) s = .next ((s.setSeg i.2 g).inhibitAfterSs i.2)) ∧
    (∀ c ∈ [(1 : BitVec 3), 6, 7], Raises (.movSregRm c rm) s excUD) ∧
    (∀ i ∈ popSegs, ∀ v g, s.stackItem s.opSize 0 = .ok v → s.checkSeg i.2 (v.setWidth 16) = .ok g →
      exec i.1 s = .next (((s.dropStack (BitVec.ofNat 32 s.opSize.bytes)).setSeg i.2 g).inhibitAfterSs i.2)) ∧
    (∀ r ea, ∀ i ∈ farLoads r (.mem ea), ∀ off sel g, s.farPtr ea = .ok (off, sel) → s.checkSeg i.2 sel = .ok g →
      exec i.1 s = .next ((s.setSeg i.2 g).setReg s.opSize.width r (off.setWidth _))) ∧
    (∀ r q, ∀ i ∈ farLoads r (.reg q), Raises i.1 s excUD)

/-- R367, R393: MOV from a segment register and PUSH of one store its selector; the upper half of a doubleword is
undefined. MOV from the codes 6 and 7 is #UD. -/
def Obligations.SegmentRegisterStoresGiveSelector : Prop :=
  ∀ (s : State), s.plain →
    (∀ c r, SReg.ofCode c = some r →
      (∀ ea, s.checkRM .w16 (.mem ea) = .ok () → ∃ t, exec (.movRmSreg (.mem ea) c) s = .next t ∧
        Stores s t .w16 (.mem ea) (s.seg r).sel ∧ t.flags = s.flags ∧ Kept s t) ∧
      (∀ q, ∃ t x, exec (.movRmSreg (.reg q) c) s = .next t ∧ t.flags = s.flags ∧ Kept s t ∧ SameMem s t ∧
        t.gpr = s.gpr.write s.opSize.width q x ∧ x.setWidth 16 = (s.seg r).sel)) ∧
    (∀ rm, ∀ c ∈ [(6 : BitVec 3), 7], Raises (.movRmSreg rm c) s excUD) ∧
    (∀ i ∈ pushSegs, NoWrap s → PushFits s →
      ∃ t x, exec i.1 s = .next t ∧ Pushed s t s.opSize x ∧ x.setWidth 16 = (s.seg i.2).sel)

/-! ### The stack -/

/-- R393, R395: PUSH of a register, an r/m operand or an immediate, and PUSHF, push the value they have before the stack
pointer moves; imm8 is sign-extended, and PUSHF shows VM and RF as 0. Outside Protected Mode a push whose bytes would
straddle the top of the 64K stack shuts the machine down. -/
def Obligations.PushesStoreBelowTheStackTop : Prop :=
  (∀ (s : State), s.plain → NoWrap s → PushFits s → let v := s.opSize.width
     (∀ r, ∃ t, exec (.pushRv r) s = .next t ∧ Pushed s t s.opSize (s.reg v r)) ∧
     (∀ rm a, s.readRM v rm = .ok a → ∃ t, exec (.pushRmv rm) s = .next t ∧ Pushed s t s.opSize a) ∧
     (∀ iv, ∃ t, exec (.pushImmv iv) s = .next t ∧ Pushed s t s.opSize (iv.at v)) ∧
     (∀ i8, ∃ t x, exec (.pushImm8 i8) s = .next t ∧ Pushed s t s.opSize x ∧ x.toInt = i8.toInt) ∧
     (¬ (s.v86Mode = true ∧ s.flags.iopl < 3) → ∃ t, exec .pushf s = .next t ∧
       Pushed s t s.opSize (({ s.flags with vm := false, rf := false } : Flags).image.setWidth _))) ∧
  (∀ (s : State), s.plain → ¬ NoWrap s → ∀ i r iv i8,
     (i ∈ [Instr.pushRv r, .pushRmv (.reg r), .pushImmv iv, .pushImm8 i8] ∨
       (i = .pushf ∧ ¬ (s.v86Mode = true ∧ s.flags.iopl < 3)) ∨ ∃ q, (i, q) ∈ pushSegs) →
     exec i s = .next { s.restart with seq := { s.restart.seq with shutdown := true } })

/-- R390, R392: POP gives the item at the top of the stack to a register, or, with the stack pointer already moved, to an
r/m operand; POPF loads the flags, IOPL only at level 0, IF only at a level at least as privileged as IOPL, never VM
and RF. -/
def Obligations.PopsTakeTheStackTop : Prop :=
  ∀ (s : State) (v : BitVec 32), s.plain → s.stackItem s.opSize 0 = .ok v →
    let u := s.dropStack (BitVec.ofNat 32 s.opSize.bytes)
    (∀ r, exec (.popRv r) s = .next (u.setReg s.opSize.width r (v.setWidth _))) ∧
    (∀ r, exec (.popRmv (.reg r)) s = .next (u.setReg s.opSize.width r (v.setWidth _))) ∧
    (∀ ea, u.checkRM s.opSize.width (.mem ea) = .ok () → ∃ t, exec (.popRmv (.mem ea)) s = .next t ∧
      Stores u t s.opSize.width (.mem ea) (v.setWidth _) ∧ t.flags = s.flags ∧ Kept u t) ∧
    (¬ (s.v86Mode = true ∧ s.flags.iopl < 3) →
      let f := Flags.ofImage v
      exec .popf s = .next { u with flags := { f with
        iopl := if s.cpl = 0 then f.iopl else s.flags.iopl
        intf := if s.cpl ≤ s.flags.iopl then f.intf else s.flags.intf
        rf := s.flags.rf
        vm := s.flags.vm } })

/-- R394, R391: with paging off, PUSHA whose items all fit stores the eight registers below the stack top, the old stack
pointer among them, and POPA from there gives them back. POPA with eight readable items loads EDI, ESI, EBP, EBX, EDX, ECX
and EAX in that order, throws the fourth away and moves the stack pointer past all eight. Outside Protected Mode PUSHA
shuts the machine down if SP is 1, 3 or 5 and is Interrupt 13 if SP is 7, 9, 11, 13 or 15. That the items are checked each
at its own offset, so that they may wrap past the top of a 16-bit stack, is the model's reading (log 60). -/
def Obligations.PushAllAndPopAll : Prop :=
  (∀ (s : State), s.plain → s.ctrl.cr0.pg = false → s.mem.wf = true → s.pushAllRoom = true →
     ∃ t u, exec .pusha s = .next t ∧ exec .popa t = .next u ∧
       t.gpr = (s.dropStack (0 - BitVec.ofNat 32 (8 * s.opSize.bytes))).gpr ∧ t.flags = s.flags ∧ Kept s t ∧
       (∀ i ∈ [(0, Reg.edi), (1, .esi), (2, .ebp), (3, .esp), (4, .ebx), (5, .edx), (6, .ecx), (7, .eax)],
         t.stackItem t.opSize (i.1 * s.opSize.bytes) = .ok ((s.reg s.opSize.width i.2).setWidth 32)) ∧
       u.gpr = s.gpr ∧ u.flags = t.flags ∧ Kept t u ∧ SameMem t u) ∧
  (∀ (s : State) (v : Fin 8 → BitVec 32), s.plain →
     (∀ k, s.stackItem s.opSize (k.val * s.opSize.bytes) = .ok (v k)) →
     ∃ t, exec .popa s = .next t ∧ t.flags = s.flags ∧ Kept s t ∧ SameMem s t ∧
       (∀ i ∈ [(0, Reg.edi), (1, .esi), (2, .ebp), (4, .ebx), (5, .edx), (6, .ecx), (7, .eax)],
         t.gpr.get i.2 = ((s.gpr.write s.opSize.width i.2 ((v i.1).setWidth _)).get i.2)) ∧
       t.gpr.esp = (s.dropStack (BitVec.ofNat 32 (8 * s.opSize.bytes))).gpr.esp) ∧
  (∀ (s : State), s.plain → s.protectedMode = false →
     (s.reg .w16 .esp ∈ [(1 : BitVec 16), 3, 5] →
       exec .pusha s = .next { s.restart with seq := { s.restart.seq with shutdown := true } }) ∧
     (s.reg .w16 .esp ∈ [(7 : BitVec 16), 9, 11, 13, 15] → Raises .pusha s (excGP 0)))

/-- R270, R333: with paging off, ENTER whose frame fits pushes the old frame pointer, then for a level above 0 the items of
the outer display one by one and the new frame pointer, which addresses the first item; it sets EBP to it and takes room
for the local variables below the last item. `m k` is memory before item `k` is pushed, and in canonical memory every item
is read back from the frame. In Protected Mode ENTER checks the whole frame first and is #SS(0) if an item lies outside the
stack segment; that the stack pointer it ends with is checked too, and in Protected Mode only, is the model's reading of
R270 (log 27), and so is that the items may wrap past the top of a 16-bit stack (log 60). LEAVE undoes the frame: the stack pointer becomes the frame pointer, and the old frame pointer is popped. -/
def Obligations.EnterAndLeaveMoveTheFrame : Prop :=
  ∀ (s : State), s.plain → let n := s.opSize.bytes; let w := s.opSize.width
    (∀ (locals : BitVec 16) (level : BitVec 8),
      let l := level.toNat % 32
      let frame := s.pushOffset n
      let item (k : Nat) : BitVec 32 := s.pushOffset ((k + 1) * n)
      let outer (k : Nat) : BitVec 32 :=
        (s.setEReg s.opSize .ebp (s.eReg s.opSize .ebp - BitVec.ofNat 32 (k * n))).eReg s.opSize .ebp
      let sp := truncSize s.stackSize (s.eReg s.stackSize .esp - BitVec.ofNat 32 ((l + 1) * n) - locals.setWidth 32)
      (s.ctrl.cr0.pg = false →
        (∀ k, k ≤ l → s.accessOk .ss (item k) n true = true) →
        (s.protectedMode = false → ∀ k, k ≤ l → (item k).toNat + n ≤ 2 ^ 16) →
        (∀ k, 1 ≤ k → k < l → s.accessOk .ss (outer k) n false = true) →
        (s.protectedMode = true → s.segs.ss.inLimit sp.toNat 1 = true) →
        ∃ (t : State) (m : Nat → Memory), exec (.enter locals level) s = .next t ∧
          t.gpr = ((s.setEReg s.opSize .ebp frame).setEReg s.stackSize .esp sp).gpr ∧ t.flags = s.flags ∧ Kept s t ∧
          m 0 = s.mem ∧ m (l + 1) = t.mem ∧
          (∀ k, k ≤ l → ∃ x, StoresAt { s with mem := m k } { s with mem := m (k + 1) } .ss w (item k) x ∧
            (k = 0 → x = s.reg w .ebp) ∧
            (1 ≤ k → k < l → { s with mem := m k }.memRead .ss w (outer k) = .ok x) ∧
            (1 ≤ k → k = l → x = frame.setWidth _) ∧
            (s.mem.wf = true → t.memRead .ss w (item k) = .ok x)) ∧
          ∀ a, (∀ k, k ≤ l → ∀ j < n, a ≠ (s.linear .ss (item k) + BitVec.ofNat 32 j).toNat) →
            memByte t.mem a = memByte s.mem a) ∧
      (s.protectedMode = true →
        ((∃ k, k ≤ l ∧ s.accessOk .ss (item k) n true = false) ∨ s.segs.ss.inLimit sp.toNat 1 = false) →
        Raises (.enter locals level) s (excSS 0))) ∧
    (∀ v, s.memRead .ss w (s.eReg s.stackSize .ebp) = .ok v →
      exec .leave s = .next (((s.setEReg s.stackSize .esp (s.eReg s.stackSize .ebp)).dropStack
        (BitVec.ofNat 32 n)).setEReg s.opSize .ebp (v.setWidth 32)))

/-! ### Flag instructions and input and output -/

namespace Sys2Proof.Claims

open Sys2Proof.Machine

/-- The instruction at hand may change IF: outside Protected Mode and V86 mode, or CPL at most IOPL (R474). -/
def MayChangeIf (s : State) : Prop := s.ctrl.cr0.pe = false ∨ s.cpl ≤ s.flags.iopl

/-- A word of the current task state segment, within its limit (R110). -/
def TssWord (s : State) (off : Nat) (x : BitVec 16) : Prop :=
  s.tables.tr.valid = true ∧ off + 2 ≤ s.tables.tr.limit.toNat + 1 ∧
    s.linRead false .w16 (s.tables.tr.base + BitVec.ofNat 32 off) = .ok x

/-- I-O-Permission is TRUE (R8): an 80386 task state segment whose bitmap, at the offset in its word 66H, has a clear bit
for each of the `n` ports. -/
def BitmapAllows (s : State) (port : BitVec 16) (n : Nat) : Prop :=
  s.tables.tr.is386 = true ∧ ∃ ptr bits, TssWord s 0x66 ptr ∧ TssWord s (port.toNat / 8 + ptr.toNat) bits ∧
    ∀ k, k < n → bits.getLsbD (port.toNat % 8 + k) = false

/-- I-O-Permission is FALSE (R8): an 80286 task state segment, a bitmap beyond the limit (D7), or a set bit. -/
def BitmapDenies (s : State) (port : BitVec 16) (n : Nat) : Prop :=
  s.tables.tr.is386 = false ∨ ∃ ptr, TssWord s 0x66 ptr ∧
    (s.tables.tr.limit.toNat + 1 < port.toNat / 8 + ptr.toNat + 2 ∨
      ∃ bits k, TssWord s (port.toNat / 8 + ptr.toNat) bits ∧ k < n ∧ bits.getLsbD (port.toNat % 8 + k) = true)

/-- The bitmap decides about a port access (R108): in V86 mode always, in Protected Mode for a level less privileged than
IOPL. -/
def AsksBitmap (s : State) : Prop := s.ctrl.cr0.pe = true ∧ (s.flags.vm = true ∨ s.flags.iopl < s.cpl)

/-- The access to a port is allowed (R108): the bitmap is not asked, or it allows the access. -/
def PortAllowed (s : State) (port : BitVec 16) (n : Nat) : Prop := ¬ AsksBitmap s ∨ BitmapAllows s port n

/-- The access to a port is denied (R108). -/
def PortDenied (s : State) (port : BitVec 16) (n : Nat) : Prop := AsksBitmap s ∧ BitmapDenies s port n

/-- The IN forms with their port and width (R274). -/
def inForms (s : State) (i8 : BitVec 8) : List (Instr × BitVec 16 × Width) :=
  let v := s.opSize.width
  [(.inAlImm8 i8, i8.setWidth 16, .b8), (.inEaxImm8 i8, i8.setWidth 16, v), (.inAlDx, s.reg .w16 .edx, .b8),
   (.inEaxDx, s.reg .w16 .edx, v)]

/-- The OUT forms with their port and width (R372). -/
def outForms (s : State) (i8 : BitVec 8) : List (Instr × BitVec 16 × Width) :=
  let v := s.opSize.width
  [(.outImm8Al i8, i8.setWidth 16, .b8), (.outImm8Eax i8, i8.setWidth 16, v), (.outDxAl, s.reg .w16 .edx, .b8),
   (.outDxEax, s.reg .w16 .edx, v)]

/-- The instruction does nothing but change the flags to `f`. -/
def OnlyFlags (i : Instr) (s : State) (f : Flags) : Prop := exec i s = .next { s with flags := f }

end Sys2Proof.Claims

/-- R241, R433, R245, R242, R434, R420, R330: CLC, STC, CMC, CLD, STD and SAHF change the flags they name, LAHF loads AH
with the low byte of the flags. -/
def Obligations.FlagInstructionsChangeNamedFlags : Prop :=
  ∀ (s : State), s.plain →
    OnlyFlags .clc s { s.flags with cf := false } ∧ OnlyFlags .stc s { s.flags with cf := true } ∧
    OnlyFlags .cmc s { s.flags with cf := !s.flags.cf } ∧ OnlyFlags .cld s { s.flags with df := false } ∧
    OnlyFlags .std s { s.flags with df := true } ∧
    (let ah := s.reg .b8 .esp
     OnlyFlags .sahf s { s.flags with
       sf := ah.getLsbD 7, zf := ah.getLsbD 6, af := ah.getLsbD 4, pf := ah.getLsbD 2, cf := ah.getLsbD 0 }) ∧
    (∃ t x, exec .lahf s = .next t ∧ Loads s t .b8 .esp x ∧ x.getLsbD 7 = s.flags.sf ∧ x.getLsbD 6 = s.flags.zf ∧
      x.getLsbD 4 = s.flags.af ∧ x.getLsbD 2 = s.flags.pf ∧ x.getLsbD 0 = s.flags.cf)

/-- R243, R435, R474, R48: CLI and STI at a level at least as privileged as IOPL clear and set IF, and STI from IF = 0
holds maskable interrupts off for one more instruction; at a lesser level both are #GP(0). -/
def Obligations.InterruptFlagNeedsPrivilege : Prop :=
  ∀ (s : State), s.plain →
    (MayChangeIf s →
      exec .cli s = .next { s with flags := { s.flags with intf := false } } ∧
      exec .sti s = .next { s with
        flags := { s.flags with intf := true }
        seq := { s.seq with inhibit := if s.flags.intf = true then s.seq.inhibit else .maskable } }) ∧
    (¬ MayChangeIf s → Raises .cli s (excGP 0) ∧ Raises .sti s (excGP 0))

/-- R274, R372, R108, R8: an allowed IN puts the value read at the port in AL, AX or EAX, an allowed OUT writes it there;
each is one event of the I/O space, and nothing else changes. A port that the permission bitmap denies is #GP(0). -/
def Obligations.PortAccessesMoveTheAccumulator : Prop :=
  ∀ (s : State) (i8 : BitVec 8), s.plain →
    (∀ i ∈ inForms s i8, i.2.1.toNat + i.2.2.bytes ≤ 2 ^ 16 → PortAllowed s i.2.1 i.2.2.bytes →
      ∃ t x, exec i.1 s = .next t ∧ t.gpr = s.gpr.write i.2.2 .eax x ∧
        t.io = s.io ++ [.input i.2.1 i.2.2.bytes (x.setWidth 32)] ∧ t.flags = s.flags ∧ SameMem s t ∧
        Kept s { t with io := s.io }) ∧
    (∀ i ∈ outForms s i8, i.2.1.toNat + i.2.2.bytes ≤ 2 ^ 16 → PortAllowed s i.2.1 i.2.2.bytes →
      exec i.1 s = .next { s with
        io := s.io ++ [.output i.2.1 i.2.2.bytes ((s.reg i.2.2 .eax).setWidth 32)] }) ∧
    (∀ i ∈ inForms s i8 ++ outForms s i8, PortDenied s i.2.1 i.2.2.bytes → Raises i.1 s (excGP 0))

/-! ### String instructions -/

namespace Sys2Proof.Claims

open Sys2Proof.Machine

/-- An index register after one element: up by its bytes if DF is 0, down if it is 1 (R114). -/
def stepped (s : State) (r : Reg) (n : Nat) : BitVec 32 :=
  if s.flags.df then s.eReg s.addrSize r - BitVec.ofNat 32 n else s.eReg s.addrSize r + BitVec.ofNat 32 n

/-- The registers of `s` with index registers moved by one element of `n` bytes. -/
def movedIndexes (s : State) (n : Nat) (rs : List Reg) : Gpr :=
  rs.foldl (fun g r => g.write s.addrSize.width r ((stepped s r n).setWidth _)) s.gpr

/-- The width of a string instruction in its byte and its word or doubleword form. -/
def stringWidths (b v : Instr) (s : State) : List (Instr × Width) := [(b, .b8), (v, s.opSize.width)]

/-- The string instructions that take REP, with the function of one element (R408). -/
def repForms (s : State) : List (Instr × (State → Res State)) :=
  let v := s.opSize.width
  [(.movsB, State.movsOne .b8), (.movsV, State.movsOne v), (.stosB, State.stosOne .b8), (.stosV, State.stosOne v),
   (.lodsB, State.lodsOne .b8), (.lodsV, State.lodsOne v), (.insB, State.insOne .b8), (.insV, State.insOne v),
   (.outsB, State.outsOne .b8), (.outsV, State.outsOne v)]

/-- The string instructions that take REPE and REPNE, with the function of one element (R408). -/
def repeForms (s : State) : List (Instr × (State → Res State)) :=
  let v := s.opSize.width
  [(.cmpsB, State.cmpsOne .b8), (.cmpsV, State.cmpsOne v), (.scasB, State.scasOne .b8), (.scasV, State.scasOne v)]

end Sys2Proof.Claims

/-- R362, R344, R436, R247, R426: one element of MOVS, LODS, STOS, CMPS and SCAS, where the source, in DS unless overridden,
can be read and the destination, always in ES, can be read or written. R276, R373: INS stores what is read at the port in
DX, OUTS writes to it what is in memory, where the port is allowed; a port that the permission bitmap denies is #GP(0)
(R108, R8). -/
def Obligations.StringElements : Prop :=
  (∀ (s : State), s.plain →
     let src := s.dataSeg .ds
     let si := s.eReg s.addrSize .esi
     let di := s.eReg s.addrSize .edi
     (∀ i ∈ stringWidths .movsB .movsV s, ∀ a, s.memRead src i.2 si = .ok a →
       s.writeCheck .es di i.2.bytes = .ok () →
       ∃ t, exec i.1 s = .next t ∧ StoresAt s t .es i.2 di a ∧ t.gpr = movedIndexes s i.2.bytes [.esi, .edi] ∧
         t.flags = s.flags ∧ Kept s t) ∧
     (∀ i ∈ stringWidths .stosB .stosV s, s.writeCheck .es di i.2.bytes = .ok () →
       ∃ t, exec i.1 s = .next t ∧ StoresAt s t .es i.2 di (s.reg i.2 .eax) ∧
         t.gpr = movedIndexes s i.2.bytes [.edi] ∧ t.flags = s.flags ∧ Kept s t) ∧
     (∀ i ∈ stringWidths .lodsB .lodsV s, ∀ a, s.memRead src i.2 si = .ok a →
       ∃ t, exec i.1 s = .next t ∧ t.gpr = (movedIndexes s i.2.bytes [.esi]).write i.2 .eax a ∧
         t.flags = s.flags ∧ Kept s t ∧ SameMem s t) ∧
     (∀ i ∈ stringWidths .cmpsB .cmpsV s, ∀ a b, s.memRead src i.2 si = .ok a → s.memRead .es i.2 di = .ok b →
       ∃ t, exec i.1 s = .next t ∧ t.gpr = movedIndexes s i.2.bytes [.esi, .edi] ∧
         t.flags = s.flags.sub a b false ∧ Kept s t ∧ SameMem s t) ∧
     (∀ i ∈ stringWidths .scasB .scasV s, ∀ b, s.memRead .es i.2 di = .ok b →
       ∃ t, exec i.1 s = .next t ∧ t.gpr = movedIndexes s i.2.bytes [.edi] ∧
         t.flags = s.flags.sub (s.reg i.2 .eax) b false ∧ Kept s t ∧ SameMem s t)) ∧
  (∀ (s : State), s.plain →
     let dx := s.reg .w16 .edx
     let si := s.eReg s.addrSize .esi
     let di := s.eReg s.addrSize .edi
     (∀ i ∈ stringWidths .insB .insV s, dx.toNat + i.2.bytes ≤ 2 ^ 16 → PortAllowed s dx i.2.bytes →
       s.writeCheck .es di i.2.bytes = .ok () →
       ∃ t x, exec i.1 s = .next t ∧ StoresAt s t .es i.2 di x ∧
         t.io = s.io ++ [.input dx i.2.bytes (x.setWidth 32)] ∧ t.gpr = movedIndexes s i.2.bytes [.edi] ∧
         t.flags = s.flags ∧ Kept s { t with io := s.io }) ∧
     (∀ i ∈ stringWidths .outsB .outsV s, dx.toNat + i.2.bytes ≤ 2 ^ 16 → PortAllowed s dx i.2.bytes →
       ∀ a, s.memRead (s.dataSeg .ds) i.2 si = .ok a →
       ∃ t, exec i.1 s = .next t ∧ t.io = s.io ++ [.output dx i.2.bytes (a.setWidth 32)] ∧
         t.gpr = movedIndexes s i.2.bytes [.esi] ∧ t.flags = s.flags ∧ Kept s { t with io := s.io } ∧ SameMem s t) ∧
     (∀ i ∈ stringWidths .insB .insV s ++ stringWidths .outsB .outsV s, PortDenied s dx i.2.bytes →
       Raises i.1 s (excGP 0)))

/-- R408: a repeated string instruction does nothing when the count register is 0. Otherwise one element is done and the
count goes down by 1. The instruction is left when the count is used up, and CMPS and SCAS also when ZF does not agree
with the prefix; else EIP goes back to its first byte. -/
def Obligations.RepeatedStringsCountDownAndStop : Prop :=
  ∀ (s : State) (p : GroupPrefix), s.seq.pfx.group = some p →
    (∀ i ∈ repForms s ++ repeForms s, (p = .rep ∨ (p = .repne ∧ ∃ f, (i.1, f) ∈ repeForms s)) →
      s.eReg s.addrSize .ecx = 0 → exec i.1 s = .next s) ∧
    (∀ i ∈ repForms s, p = .rep → s.eReg s.addrSize .ecx ≠ 0 → ∀ u, i.2 s = .ok u →
      ∃ t, exec i.1 s = .next t ∧
        t.gpr = (u.setEReg s.addrSize .ecx (s.eReg s.addrSize .ecx - 1)).gpr ∧ t.mem = u.mem ∧ t.flags = u.flags ∧
        t.io = u.io ∧ t.eip = if s.eReg s.addrSize .ecx = 1 then u.eip else u.seq.startEip) ∧
    (∀ i ∈ repeForms s, p ≠ .lock → s.eReg s.addrSize .ecx ≠ 0 → ∀ u, i.2 s = .ok u →
      ∃ t, exec i.1 s = .next t ∧
        t.gpr = (u.setEReg s.addrSize .ecx (s.eReg s.addrSize .ecx - 1)).gpr ∧ t.mem = u.mem ∧ t.flags = u.flags ∧
        t.io = u.io ∧
        t.eip = if s.eReg s.addrSize .ecx = 1 ∨ u.flags.zf = (p == .repne) then u.eip else u.seq.startEip)

/-! ### Control transfers -/

namespace Sys2Proof.Claims

open Sys2Proof.Machine

/-- Jcc with its condition subcode (R310). -/
def jccForms (rel : Rel) : List (Nat × Instr) :=
  [(0, .jo rel), (1, .jno rel), (2, .jb rel), (3, .jnb rel), (4, .jz rel), (5, .jnz rel), (6, .jbe rel),
   (7, .jnbe rel), (8, .js rel), (9, .jns rel), (10, .jp rel), (11, .jnp rel), (12, .jl rel), (13, .jnl rel),
   (14, .jle rel), (15, .jnle rel)]

/-- The offset a relative transfer goes to: the next instruction's plus the displacement, of which a 16-bit operand size
keeps 16 bits (R310). EIP was moved to the next instruction before this one runs. -/
def target (s : State) (d : BitVec 32) : BitVec 32 :=
  match s.opSize with
  | .s16 => (s.eip + d) &&& 0xFFFF
  | .s32 => s.eip + d

/-- The displacement of a relative transfer, sign-extended. -/
def displacement : Rel → BitVec 32
  | .short d => d.signExtend 32
  | .near (.w16 d) => d.signExtend 32
  | .near (.w32 d) => d

/-- A near transfer may go to an offset: in Protected Mode it lies within the limit of CS (R310). -/
def InReach (s : State) (v : BitVec 32) : Prop := s.protectedMode = true → v ≤ s.segs.cs.limit

/-- `s` after a taken control transfer within CS: the prefetch queue is empty (R107). -/
def jumped (s : State) (v : BitVec 32) : State :=
  { s with eip := v, seq := { s.seq with stale := [], peSwitch := false } }

/-- The count register after LOOP has counted down. -/
def counted (s : State) : State := s.setEReg s.addrSize .ecx (s.eReg s.addrSize .ecx - 1)

/-- LOOP, LOOPE and LOOPNE with what they ask of ZF (R345). -/
def loopForms (rel : BitVec 8) (s : State) : List (Instr × Prop) :=
  [(.loopRel8 rel, True), (.loopeRel8 rel, s.flags.zf = true), (.loopneRel8 rel, s.flags.zf = false)]

end Sys2Proof.Claims

/-- R310, R35: Jcc goes to its target when its condition holds, and else to the next instruction; a target beyond the code
segment limit is #GP(0) in Protected Mode. R345, R311: the LOOP instructions count CX or ECX down without touching a flag
and jump while it is not 0 and ZF is as asked; JCXZ jumps if it is 0. -/
def Obligations.ConditionalTransfers : Prop :=
  (∀ (s : State) (rel : Rel), s.plain → ∀ i ∈ jccForms rel, let v := target s (displacement rel)
     (Condition s.flags i.1 → InReach s v → exec i.2 s = .next (jumped s v)) ∧
     (Condition s.flags i.1 → ¬ InReach s v → Raises i.2 s (excGP 0)) ∧
     (¬ Condition s.flags i.1 → exec i.2 s = .next s)) ∧
  (∀ (s : State) (rel : BitVec 8), s.plain → let v := target s (rel.signExtend 32)
     (∀ i ∈ loopForms rel s, (i.2 ∧ s.eReg s.addrSize .ecx ≠ 1) → InReach s v →
       exec i.1 s = .next (jumped (counted s) v)) ∧
     (∀ i ∈ loopForms rel s, ¬ (i.2 ∧ s.eReg s.addrSize .ecx ≠ 1) → exec i.1 s = .next (counted s)) ∧
     (∀ i ∈ loopForms rel s, (i.2 ∧ s.eReg s.addrSize .ecx ≠ 1) → ¬ InReach s v → Raises i.1 s (excGP 0)) ∧
     (s.eReg s.addrSize .ecx = 0 → InReach s v → exec (.jcxzRel8 rel) s = .next (jumped s v)) ∧
     (s.eReg s.addrSize .ecx ≠ 0 → exec (.jcxzRel8 rel) s = .next s))

/-- R312, R313: JMP near goes to next_eip plus a displacement, or to the offset in an r/m operand. R230, R231, R410: CALL near
pushes the offset of the next instruction and jumps; RET near pops an offset, jumps there and releases the immediate's
bytes of the stack. -/
def Obligations.NearTransfers : Prop :=
  (∀ (s : State), s.plain →
     (∀ rel, ∀ i ∈ [(Instr.jmpRel8 rel, target s (rel.signExtend 32))], InReach s i.2 →
       exec i.1 s = .next (jumped s i.2)) ∧
     (∀ iv, InReach s (target s (displacement (.near iv))) →
       exec (.jmpRelv iv) s = .next (jumped s (target s (displacement (.near iv))))) ∧
     (∀ rm a, s.readRM s.opSize.width rm = .ok a → InReach s (a.setWidth 32) →
       exec (.jmpRmv rm) s = .next (jumped s (a.setWidth 32))) ∧
     (∀ rm a, s.readRM s.opSize.width rm = .ok a → ¬ InReach s (a.setWidth 32) → Raises (.jmpRmv rm) s (excGP 0))) ∧
  (∀ (s : State), s.plain →
     (∀ i v, (∃ iv, i = Instr.callRelv iv ∧ v = target s (displacement (.near iv))) ∨
         (∃ rm a, i = Instr.callRmv rm ∧ s.readRM s.opSize.width rm = .ok a ∧ v = a.setWidth 32) →
       InReach s v → PushFits s →
       ∃ t, exec i s = .next (jumped t v) ∧ Pushed s t s.opSize (s.eip.setWidth _)) ∧
     (∀ i imm, (i = Instr.retNear ∧ imm = 0) ∨ i = Instr.retNearImm imm →
       ∀ v, s.stackItem s.opSize 0 = .ok v → InReach s v →
       exec i s = .next (jumped ((s.dropStack (BitVec.ofNat 32 s.opSize.bytes)).dropStack (imm.setWidth 32)) v)) ∧
     (∀ i imm, (i = Instr.retNear ∧ imm = 0) ∨ i = Instr.retNearImm imm →
       ∀ v, s.stackItem s.opSize 0 = .ok v → ¬ InReach s v → Raises i s (excGP 0)))

/-- R314, R232, R411: far transfers outside Protected Mode load CS with 16 times the selector as its base. JMP and CALL
take their pointer from the instruction or from memory, CALL pushes CS and the offset of the next instruction and is
Interrupt 13 for a target beyond FFFFH, RET pops both and releases the immediate's bytes. -/
def Obligations.RealModeFarTransfersLoadCs : Prop :=
  ∀ (s : State), s.plain → s.protectedMode = false →
    (∀ off sel, exec (.jmpFar off sel) s = .next (jumped (s.setSeg .cs (.real sel)) off.zext)) ∧
    (∀ ea off sel, s.farPtr ea = .ok (off, sel) →
      exec (.jmpFarM (.mem ea)) s = .next (jumped (s.setSeg .cs (.real sel)) off)) ∧
    (∀ i off sel, (∃ o : VImm, i = Instr.callFar o sel ∧ off = o.zext) ∨
        (∃ ea, i = Instr.callFarM (.mem ea) ∧ s.farPtr ea = .ok (off, sel)) →
      (off.toNat ≤ 0xFFFF → s.ctrl.cr0.pg = false →
        s.accessOk .ss (s.pushOffset s.opSize.bytes) s.opSize.bytes true = true →
        s.accessOk .ss (s.pushOffset (2 * s.opSize.bytes)) s.opSize.bytes true = true →
        ∃ t u x, exec i s = .next (jumped (u.setSeg .cs (.real sel)) off) ∧ Pushed s t s.opSize x ∧
          x.setWidth 16 = s.segs.cs.sel ∧ Pushed t u s.opSize (s.eip.setWidth _)) ∧
      (0xFFFF < off.toNat → Raises i s (excGP 0))) ∧
    (∀ i imm, (i = Instr.retFar ∧ imm = 0) ∨ i = Instr.retFarImm imm →
      ∀ ip cs, s.stackItem s.opSize 0 = .ok ip → s.stackItem s.opSize s.opSize.bytes = .ok cs →
      exec i s = .next (jumped ((s.dropStack (BitVec.ofNat 32 (2 * s.opSize.bytes) + imm.setWidth 32)).setSeg .cs
        (.real (cs.setWidth 16))) ip)) ∧
    (∀ q, Raises (.jmpFarM (.reg q)) s excUD ∧ Raises (.callFarM (.reg q)) s excUD)

namespace Sys2Proof.Claims

open Sys2Proof.Machine

/-- An item on the stack: the low part of a doubleword, or a word with anything in the upper half of a doubleword
(D14). -/
inductive Item where
  | low (x : BitVec 32)
  | word (x : BitVec 16)

/-- The value is that item. -/
def Item.Is {n : Nat} : Item → BitVec n → Prop
  | .low x, v => v = x.setWidth n
  | .word x, v => v.setWidth 16 = x

/-- Items of one size pushed one after another; between the states `Pushed` says what changes. -/
def PushedAll (size : Size) : List Item → State → State → Prop
  | [], s, t => t = s
  | p :: l, s, t => ∃ u v, p.Is v ∧ Pushed s u size v ∧ PushedAll size l u t

/-- `k` more items of `n` bytes fit on the stack of a state. -/
def Room (s : State) (n k : Nat) : Prop :=
  ∀ j, 1 ≤ j → j ≤ k → s.accessOk .ss (s.pushOffset (n * j)) n true = true

/-- The selector names a present call gate `g` that CPL and the selector's RPL may use, and the gate names the present code
segment `d`, within whose limit its offset lies (R234, R316). -/
def CallGateFor (s : State) (sel : BitVec 16) (g d : Desc) : Prop :=
  sel &&& 0xFFFC ≠ 0 ∧ s.descOf? sel = .ok (some g) ∧ g.isSeg = false ∧ g.typ ∈ [(4 : BitVec 4), 12] ∧
    s.cpl ≤ g.dpl ∧ rpl sel ≤ g.dpl ∧ g.present = true ∧ g.gateSel &&& 0xFFFC ≠ 0 ∧
    s.descOf? g.gateSel = .ok (some d) ∧ d.isCode = true ∧ d.present = true ∧ g.gateOffset ≤ d.limit

/-- The instruction is a far JMP to a selector and an offset, from the instruction or from memory (R315). -/
def FarJmp (s : State) (i : Instr) (sel : BitVec 16) (off : BitVec 32) : Prop :=
  (∃ o : VImm, i = .jmpFar o sel ∧ off = o.zext) ∨ ∃ ea, i = .jmpFarM (.mem ea) ∧ s.farPtr ea = .ok (off, sel)

/-- The instruction is a far CALL to a selector and an offset, from the instruction or from memory (R233). -/
def FarCall (s : State) (i : Instr) (sel : BitVec 16) (off : BitVec 32) : Prop :=
  (∃ o : VImm, i = .callFar o sel ∧ off = o.zext) ∨ ∃ ea, i = .callFarM (.mem ea) ∧ s.farPtr ea = .ok (off, sel)

/-- A code segment that a transfer at the level of the state may enter: conforming and at most of CPL, or of CPL. -/
def OfLevel (s : State) (d : Desc) : Prop := if d.ce = true then d.dpl ≤ s.cpl else d.dpl = s.cpl

end Sys2Proof.Claims

/-- R315, R233, R412, R316, R234: far transfers at one level in Protected Mode, to a present code segment that is of CPL, or
conforming and at most of CPL. The selector's RPL becomes CPL, the offset must lie within the new limit, and CALL needs
room for the return address. Through a call gate, JMP and CALL go to the gate's selector and offset, and CALL pushes at the
gate's size. -/
def Obligations.ProtectedFarTransfersAtOneLevel : Prop :=
  (∀ (s : State) (off : BitVec 32) (sel : BitVec 16) (d : Desc), s.plain → s.protectedMode = true →
    s.descOf? sel = .ok (some d) → sel &&& 0xFFFC ≠ 0 → d.isCode = true → OfLevel s d →
    d.present = true → off ≤ d.limit →
    let cs := { d.toSeg sel with sel := withRpl sel s.cpl }
    (d.ce = true ∨ rpl sel ≤ s.cpl → ∀ i, FarJmp s i sel off → exec i s = .next (jumped (s.setSeg .cs cs) off)) ∧
    (d.ce = true ∨ rpl sel ≤ s.cpl → ∀ i, FarCall s i sel off → s.ctrl.cr0.pg = false →
      s.accessOk .ss (s.pushOffset (2 * s.opSize.bytes)) (2 * s.opSize.bytes) true = true →
      s.accessOk .ss (s.pushOffset s.opSize.bytes) s.opSize.bytes true = true →
      ∃ t u x, exec i s = .next (jumped (u.setSeg .cs cs) off) ∧ Pushed s t s.opSize x ∧
        x.setWidth 16 = s.segs.cs.sel ∧ Pushed t u s.opSize (s.eip.setWidth _)) ∧
    (rpl sel = s.cpl → ∀ i imm, (i = Instr.retFar ∧ imm = 0) ∨ i = Instr.retFarImm imm →
      s.stackItem s.opSize 0 = .ok off →
      s.memRead .ss .w16 (addOffset s.stackSize (s.eReg s.stackSize .esp) (BitVec.ofNat 32 s.opSize.bytes)) = .ok sel →
      exec i s = .next (jumped ((s.dropStack (BitVec.ofNat 32 (2 * s.opSize.bytes) + imm.setWidth 32)).setSeg .cs
        (d.toSeg sel)) off))) ∧
  (∀ (s : State) (i : Instr) (off : BitVec 32) (sel : BitVec 16) (g d : Desc), s.plain → s.protectedMode = true →
    CallGateFor s sel g d → OfLevel s d →
    let cs := { d.toSeg g.gateSel with sel := withRpl g.gateSel s.cpl }
    let z := g.gateSize
    (FarJmp s i sel off → exec i s = .next (jumped (s.setSeg .cs cs) g.gateOffset)) ∧
    (FarCall s i sel off → s.ctrl.cr0.pg = false →
      s.segs.ss.stackRoom (s.eReg s.stackSize .esp) (2 * z.bytes) = true → Room s z.bytes 2 →
      ∃ u, exec i s = .next (jumped (u.setSeg .cs cs) g.gateOffset) ∧
        PushedAll z [.word s.segs.cs.sel, .low s.eip] s u))

/-- R315, R233: the checks of a far JMP or CALL to a code segment, and the exception of each that fails: a null selector
#GP(0), a bad type or privilege #GP(selector), an absent segment #NP(selector), an offset beyond the limit #GP(0). -/
def Obligations.FarJumpChecksRaiseTheirExceptions : Prop :=
  ∀ (s : State) (o : VImm) (sel : BitVec 16), s.plain → s.protectedMode = true →
    let e := sel &&& 0xFFFC
    (e = 0 → ∀ i ∈ [Instr.jmpFar o sel, .callFar o sel], Raises i s (excGP 0)) ∧
    (e ≠ 0 → s.descOf? sel = .ok none → ∀ i ∈ [Instr.jmpFar o sel, .callFar o sel], Raises i s (excGP e)) ∧
    (∀ d, e ≠ 0 → s.descOf? sel = .ok (some d) →
      (∀ i ∈ [Instr.jmpFar o sel, .callFar o sel],
        (d.isData = true → Raises i s (excGP e)) ∧
        (d.isCode = true → d.ce = true → s.cpl < d.dpl → Raises i s (excGP e)) ∧
        (d.isCode = true → d.ce = false → (s.cpl < rpl sel ∨ d.dpl ≠ s.cpl) → Raises i s (excGP e)) ∧
        (d.isCode = true → d.ce = false → rpl sel ≤ s.cpl → d.dpl = s.cpl → d.present = false →
          Raises i s (excNP e)) ∧
        (d.isCode = true → d.ce = true → d.dpl ≤ s.cpl → d.present = false → Raises i s (excNP e))) ∧
      (d.isCode = true → d.ce = false → rpl sel ≤ s.cpl → d.dpl = s.cpl → d.present = true → d.limit < o.zext →
        Raises (.jmpFar o sel) s (excGP 0)))


/-! ### Interrupts and returns from them -/

namespace Sys2Proof.Claims

open Sys2Proof.Machine

/-- A software interrupt with its vector (R290): INT 3, INT n where V86 mode lets it run, INTO with OF = 1. -/
def SoftInt (s : State) (i : Instr) (v : BitVec 8) : Prop :=
  (i = .int3 ∧ v = 3) ∨ (i = .intN v ∧ ¬ (s.v86Mode = true ∧ s.flags.iopl < 3)) ∨
    (i = .into ∧ v = 4 ∧ s.flags.ofl = true)

/-- The error code of an event as the last item pushed, if it has one (R294, R296). -/
def codeItem (e : Event) : List Item := (e.code.map Item.word).toList

/-- The flags a gate leaves: TF and NT cleared, and IF too by an interrupt gate, types 7 and F (R294, R296). -/
def gateFlags (f : Flags) (g : Desc) : Flags :=
  { f with tf := false, nt := false, intf := if g.typ = 7 ∨ g.typ = 15 then false else f.intf }

/-- The IDT holds a present trap or interrupt gate `g` for the event, which a software interrupt may use at CPL, and `d`
is the present code segment that the gate names (R292, R293). -/
def GateFor (s : State) (e : Event) (g d : Desc) : Prop :=
  e.vec.toNat * 8 + 7 ≤ s.tables.idtr.limit.toNat ∧ s.descAt (s.tables.idtr.base + e.vec.setWidth 32 * 8) = .ok g ∧
    g.isSeg = false ∧ g.typ ∈ [(6 : BitVec 4), 7, 14, 15] ∧ (e.software = true → s.cpl ≤ g.dpl) ∧ g.present = true ∧
    g.gateSel &&& 0xFFFC ≠ 0 ∧ s.descOf? g.gateSel = .ok (some d) ∧ d.isCode = true ∧ d.present = true ∧
    g.gateOffset ≤ d.limit

/-- The flags that IRET loads from an image (R298): IOPL only at level 0, IF only at a level at least as privileged as
IOPL, RF only from a doubleword, VM only from a doubleword and at level 0, Real Address Mode included. -/
def returnedFlags (s : State) (image : BitVec 32) : Flags :=
  let f := Flags.ofImage image
  { f with
    iopl := if s.cpl = 0 then f.iopl else s.flags.iopl
    intf := if s.cpl ≤ s.flags.iopl then f.intf else s.flags.intf
    rf := if s.opSize = .s32 then f.rf else s.flags.rf
    vm := if s.opSize = .s32 ∧ s.cpl = 0 then f.vm else s.flags.vm }

/-- The code segment `d` that a return selector names may be returned to: the selector is not null, and the segment is
code, of the selector's RPL unless conforming, and present (R301, R302). -/
def ReturnsTo (s : State) (sel : BitVec 16) (d : Desc) : Prop :=
  sel &&& 0xFFFC ≠ 0 ∧ s.descOf? sel = .ok (some d) ∧ d.isCode = true ∧ d.present = true ∧
    (if d.ce = true then d.dpl ≤ rpl sel else d.dpl = rpl sel)

/-- A segment register stays valid at the level of `u` (R302, R413, read as a conjunction by C58): it holds a segment whose
selector lies within its table, data or readable code, and unless conforming code of a DPL at least CPL and the RPL. -/
def StaysValid (u : State) (g : SegReg) : Prop :=
  g.valid = true ∧
    (if g.sel.getLsbD 2 = true then
      u.tables.ldtr.valid = true ∧ (g.sel &&& 0xFFF8).toNat + 7 ≤ u.tables.ldtr.limit.toNat
    else (g.sel &&& 0xFFF8).toNat + 7 ≤ u.tables.gdtr.limit.toNat) ∧
    (g.code = false ∨ g.rw = true) ∧
    ((g.code = true ∧ g.ce = true) ∨ (u.cpl ≤ g.dpl ∧ rpl g.sel ≤ g.dpl))

/-- `t` is `u` but that each of ES, FS, GS and DS that does not stay valid holds the null selector and no segment. -/
def Outer (u t : State) : Prop :=
  t = { u with segs := t.segs } ∧ t.segs.cs = u.segs.cs ∧ t.segs.ss = u.segs.ss ∧
    ∀ r ∈ [SReg.es, .fs, .gs, .ds], (StaysValid u (u.seg r) → t.seg r = u.seg r) ∧
      (¬ StaysValid u (u.seg r) → t.seg r = .null 0)

/-- The return SS selector names `w`, a present writable data segment of the level returned to (R302, R413). -/
def StackFor (s : State) (ss : BitVec 16) (level : BitVec 2) (w : Desc) : Prop :=
  ss &&& 0xFFFC ≠ 0 ∧ s.descOf? ss = .ok (some w) ∧ rpl ss = level ∧ w.dpl = level ∧ w.isData = true ∧ w.rw = true ∧
    w.present = true

/-- CS and EIP, then SS and SP or ESP by the new B bit, as a return to an outer level loads them. -/
def returned (s : State) (cs : SegReg) (ip : BitVec 32) (ss : SegReg) (sp : BitVec 32) : State :=
  ((jumped (s.setSeg .cs cs) ip).setSeg .ss ss).setEReg (sizeOf32 ss.db) .esp sp

/-- The offset, the code selector and the flags image of an interrupt frame at the top of the stack. -/
def Frame (s : State) (ip cs fl : BitVec 32) : Prop :=
  s.stackItem s.opSize 0 = .ok ip ∧ s.stackItem s.opSize s.opSize.bytes = .ok cs ∧
    s.stackItem s.opSize (2 * s.opSize.bytes) = .ok fl

end Sys2Proof.Claims

/-- R290, R291: a software interrupt in Real Address Mode, paging off, pushes FLAGS, CS and the offset of the next
instruction as words, clears IF and TF and loads CS and IP from the four bytes of the IDT. An entry beyond the IDT limit is
Interrupt 13 (D18). The first word that does not fit decides: one that would straddle the top of the 64K stack shuts the
machine down, one outside a limit kept from Protected Mode is Interrupt 13 (R94, D18). INTO with OF = 0 does nothing. -/
def Obligations.RealModeInterruptEntry : Prop :=
  ∀ (s : State), s.plain →
    (∀ i v, SoftInt s i v → s.realMode = true → s.ctrl.cr0.pg = false →
      let whole (k : Nat) : Prop := ∀ j, 1 ≤ j → j ≤ k → (s.pushOffset (2 * j)).toNat + 2 ≤ 2 ^ 16
      (Room s 2 3 → whole 3 → v.toNat * 4 + 3 ≤ s.tables.idtr.limit.toNat →
        ∃ t c ip cs, exec i s = .next t ∧
          PushedAll .s16 [.low s.flags.image, .word s.segs.cs.sel, .low s.eip] s c ∧
          c.linRead false .w16 (s.tables.idtr.base + v.setWidth 32 * 4) = .ok ip ∧
          c.linRead false .w16 (s.tables.idtr.base + v.setWidth 32 * 4 + 2) = .ok cs ∧
          t = jumped ({ c with flags := { s.flags with intf := false, tf := false } }.setSeg .cs (.real cs))
            (ip.setWidth 32)) ∧
      (Room s 2 3 → whole 3 → s.tables.idtr.limit.toNat < v.toNat * 4 + 3 → Raises i s (excGP 0)) ∧
      (∀ k, k < 3 → Room s 2 k → whole k → ¬ whole (k + 1) →
        exec i s = .next { s.restart with seq := { s.restart.seq with shutdown := true } }) ∧
      (∀ k, k < 3 → Room s 2 k → whole (k + 1) → ¬ Room s 2 (k + 1) → Raises i s (excGP 0))) ∧
    (s.flags.ofl = false → exec .into s = .next s)

/-- R292, R290: the checks of the IDT entry that a software interrupt uses in Protected Mode and V86 mode, and their error
code, 8 times the vector plus 2; INT n in V86 mode with IOPL below 3 is #GP(0). -/
def Obligations.InterruptGateChecksRaiseTheirExceptions : Prop :=
  ∀ (s : State) (v : BitVec 8), s.plain → s.ctrl.cr0.pe = true →
    let e : BitVec 16 := v.setWidth 16 * 8 + 2
    (∀ i, SoftInt s i v → s.tables.idtr.limit.toNat < v.toNat * 8 + 7 → Raises i s (excGP e)) ∧
    (∀ i g, SoftInt s i v → v.toNat * 8 + 7 ≤ s.tables.idtr.limit.toNat →
      s.descAt (s.tables.idtr.base + v.setWidth 32 * 8) = .ok g →
      (¬ (g.isSeg = false ∧ g.typ ∈ [(5 : BitVec 4), 6, 7, 14, 15]) → Raises i s (excGP e)) ∧
      (g.dpl < s.cpl → Raises i s (excGP e)) ∧
      (g.isSeg = false → g.typ ∈ [(5 : BitVec 4), 6, 7, 14, 15] → s.cpl ≤ g.dpl → g.present = false →
        Raises i s (excNP e))) ∧
    (s.v86Mode = true → s.flags.iopl < 3 → Raises (.intN v) s (excGP 0))

/-- R296: an exception or interrupt through a gate to a code segment of the same level, paging off. EFLAGS, CS, EIP and
the error code are pushed at the gate's size, CS takes the segment with CPL as its RPL, EIP the gate's offset, TF and NT
are cleared and IF by an interrupt gate. A software interrupt is entered so. -/
def Obligations.GateEntryAtOneLevel : Prop :=
  ∀ (s : State) (e : Event) (g d : Desc), s.protectedMode = true → s.ctrl.cr0.pg = false → GateFor s e g d →
    (d.ce = true ∨ d.dpl = s.cpl) →
    let z := g.gateSize
    let k := 3 + e.codeItems
    s.segs.ss.stackRoom (s.eReg s.stackSize .esp) (z.bytes * k) = true → Room s z.bytes k →
    ∃ t c, s.enter e = .ok t ∧
      PushedAll z (.low s.flags.image :: .word s.segs.cs.sel :: .low s.eip :: codeItem e) s c ∧
      t = jumped ({ c with flags := gateFlags s.flags g }.setSeg .cs
        { d.toSeg g.gateSel with sel := withRpl g.gateSel s.cpl }) g.gateOffset ∧
      ∀ i, s.plain → SoftInt s i e.vec → e = softEvent e.vec → exec i s = .next t

namespace Sys2Proof.Claims

open Sys2Proof.Machine

/-- The stack segment that the task state segment names for a level is usable there: `sel` and `sp` are its SS and eSP,
and `w` is its present writable data segment of that level (R294). -/
def InnerStack (s : State) (level : BitVec 2) (ext : BitVec 16) (sel : BitVec 16) (sp : BitVec 32) (w : Desc) : Prop :=
  s.tssStack level ext = .ok (sel, sp) ∧ sel &&& 0xFFFC ≠ 0 ∧ s.descOf? sel = .ok (some w) ∧ rpl sel = level ∧
    w.dpl = level ∧ w.isData = true ∧ w.rw = true ∧ w.present = true

/-- `n` items at the top of the stack of `old` are copied onto the stack of `t`, the highest first, each read when it is
pushed (R234). -/
def Copied (old : State) (size : Size) : Nat → State → State → Prop
  | 0, t, u => u = t
  | n + 1, t, u => ∃ x y, { old with mem := t.mem }.stackItem size (n * size.bytes) = .ok x ∧
      Pushed t y size (x.setWidth _) ∧ Copied old size n y u

end Sys2Proof.Claims

/-- R294: an exception or interrupt through a gate to a more privileged nonconforming code segment, paging off. SS and eSP
come from the task state segment; the old SS and ESP, EFLAGS, CS, EIP and the error code are pushed on that stack, and
CPL becomes the level of the segment. R234: a far CALL through a call gate to such a segment switches stacks likewise: it
pushes the old SS and ESP, copies the gate's count of parameters from the old stack and pushes CS and the offset of the
next instruction. That the new segment's B bit chooses SP or ESP is log 26, that a 16-bit image clears the upper half of a
32-bit ESP is log 58, that a 32-bit gate pushes all of ESP from a 16-bit stack is log 56, that the parameters are copied
one by one, highest first, is log 56 too: the model's choices. -/
def Obligations.GateEntryToInnerLevelSwitchesStacks : Prop :=
  (∀ (s : State) (e : Event) (g d w : Desc) (sel : BitVec 16) (sp : BitVec 32),
     s.protectedMode = true → s.ctrl.cr0.pg = false → GateFor s e g d → d.ce = false → d.dpl < s.cpl →
     InnerStack s d.dpl e.extBit sel sp w →
     let z := g.gateSize
     let k := 5 + e.codeItems
     let a := ((s.setSeg .cs { d.toSeg g.gateSel with sel := withRpl g.gateSel d.dpl }).setSeg .ss (w.toSeg sel)).setEReg
       (sizeOf32 (w.toSeg sel).db) .esp sp
     (w.toSeg sel).stackRoom sp (z.bytes * k) = true → Room a z.bytes k →
     ∃ t c, s.enter e = .ok t ∧
       PushedAll z (.word s.segs.ss.sel :: .low s.gpr.esp :: .low s.flags.image :: .word s.segs.cs.sel ::
         .low s.eip :: codeItem e) a c ∧
       t = jumped { c with flags := gateFlags s.flags g } g.gateOffset ∧ t.cpl = d.dpl ∧
       ∀ i, s.plain → SoftInt s i e.vec → e = softEvent e.vec → exec i s = .next t) ∧
  (∀ (s : State) (i : Instr) (off : BitVec 32) (sel : BitVec 16) (g d w : Desc) (ss : BitVec 16) (sp : BitVec 32),
     s.plain → s.protectedMode = true → s.ctrl.cr0.pg = false → FarCall s i sel off → CallGateFor s sel g d →
     d.ce = false → d.dpl < s.cpl → InnerStack s d.dpl 0 ss sp w →
     let z := g.gateSize
     let a := ((s.setSeg .cs { d.toSeg g.gateSel with sel := withRpl g.gateSel d.dpl }).setSeg .ss (w.toSeg ss)).setEReg
       (sizeOf32 (w.toSeg ss).db) .esp sp
     (w.toSeg ss).stackRoom sp (z.bytes * (4 + g.gateCount)) = true → Room a z.bytes (4 + g.gateCount) →
     (∀ k, k < g.gateCount → s.accessOk .ss
       (addOffset s.stackSize (s.eReg s.stackSize .esp) (BitVec.ofNat 32 (k * z.bytes))) z.bytes false = true) →
     ∃ b c t, PushedAll z [.word s.segs.ss.sel, .low s.gpr.esp] a b ∧ Copied s z g.gateCount b c ∧
       PushedAll z [.word s.segs.cs.sel, .low s.eip] c t ∧ exec i s = .next (jumped t g.gateOffset) ∧
       (jumped t g.gateOffset).cpl = d.dpl)

/-- R295: an exception or interrupt in V86 mode through a 32-bit gate to a nonconforming code segment of level 0, paging
off. On the level 0 stack are pushed GS, FS, DS, ES, SS, ESP, EFLAGS with VM set, CS, EIP and the error code; VM is
cleared and GS, FS, DS and ES are null. -/
def Obligations.V86InterruptEntersLevel0 : Prop :=
  ∀ (s : State) (e : Event) (g d w : Desc) (sel : BitVec 16) (sp : BitVec 32),
    s.v86Mode = true → s.ctrl.cr0.pg = false → GateFor s e g d → g.gateSize = .s32 → d.ce = false → d.dpl = 0 →
    s.tables.tr.is386 = true → InnerStack s 0 e.extBit sel sp w →
    let k := 9 + e.codeItems
    let a := (({ s with flags := { gateFlags s.flags g with vm := false } }.setSeg .cs
      { d.toSeg g.gateSel with sel := withRpl g.gateSel 0 }).setSeg .ss (w.toSeg sel)).setReg .d32 .esp sp
    (w.toSeg sel).stackRoom sp (4 * k) = true → Room a 4 k →
    ∃ t c, s.enter e = .ok t ∧
      PushedAll .s32 (.word s.segs.gs.sel :: .word s.segs.fs.sel :: .word s.segs.ds.sel :: .word s.segs.es.sel ::
        .word s.segs.ss.sel :: .low s.gpr.esp :: .low s.flags.image :: .word s.segs.cs.sel :: .low s.eip ::
        codeItem e) a c ∧
      t = jumped { c with segs := { c.segs with gs := .null 0, fs := .null 0, ds := .null 0, es := .null 0 } }
        g.gateOffset ∧ t.protectedMode = true ∧ t.cpl = 0 ∧
      ∀ i, s.plain → SoftInt s i e.vec → e = softEvent e.vec → exec i s = .next t

/-- R298, R301: IRET pops EIP, CS and the flags. In Real Address Mode, and in V86 mode with IOPL 3, CS is 16 times the
selector; in Protected Mode at the same level it is the checked code segment. NMI is no longer held off. In V86 mode with
IOPL below 3 it is #GP(0). That a doubleword image loads VM also in Real Address Mode, which acts as level 0, is R298's
own rule, read to the letter (log 24). -/
def Obligations.InterruptReturnsPopTheFrame : Prop :=
  ∀ (s : State) (ip cs fl : BitVec 32), s.plain → Frame s ip cs fl →
    let u := { s.dropStack (BitVec.ofNat 32 (3 * s.opSize.bytes)) with flags := returnedFlags s fl }
    ((s.realMode = true ∨ (s.v86Mode = true ∧ s.flags.iopl = 3)) →
      exec .iret s = .next (jumped (u.setSeg .cs (.real (cs.setWidth 16))) ip).unblockNmi) ∧
    (s.v86Mode = true → s.flags.iopl < 3 → Raises .iret s (excGP 0)) ∧
    (∀ d, s.protectedMode = true → s.flags.nt = false →
      (s.opSize = .s32 → s.cpl = 0 → (Flags.ofImage fl).vm = false) → s.stackHas (3 * s.opSize.bytes) = true →
      s.memRead .ss .w16 (addOffset s.stackSize (s.eReg s.stackSize .esp) (BitVec.ofNat 32 s.opSize.bytes)) =
        .ok (cs.setWidth 16) →
      rpl (cs.setWidth 16) = s.cpl → ReturnsTo s (cs.setWidth 16) d → ip ≤ d.limit →
      exec .iret s = .next (jumped (u.setSeg .cs (d.toSeg (cs.setWidth 16))) ip).unblockNmi)

/-- R302: IRET to an outer level also loads SS and eSP from the frame, and makes null each of ES, FS, GS and DS that is not
valid there. R413: a far RET to an outer level does the same without flags, and releases the immediate's bytes on both
stacks. R300: at level 0 an image with VM set returns to V86 mode, with all six segment registers from the frame. That
validity is judged by the hidden rights and the present table limit is log 31, that the new segment's B bit chooses SP or
ESP is log 26, that a word image clears the upper half of a 32-bit ESP is log 58, and the order of the pops to V86 mode is
log 50: the model's choices. -/
def Obligations.InterruptReturnsToOuterLevelAndV86 : Prop :=
  (∀ (s : State) (ip cs fl sp ss : BitVec 32), s.plain → s.protectedMode = true → s.flags.nt = false →
     Frame s ip cs fl → let n := s.opSize.bytes
     (∀ d w, (s.opSize = .s32 → s.cpl = 0 → (Flags.ofImage fl).vm = false) → s.stackHas (5 * n) = true →
       s.memRead .ss .w16 (addOffset s.stackSize (s.eReg s.stackSize .esp) (BitVec.ofNat 32 n)) =
         .ok (cs.setWidth 16) →
       s.stackItem s.opSize (3 * n) = .ok sp → s.stackItem s.opSize (4 * n) = .ok ss →
       s.cpl < rpl (cs.setWidth 16) → ReturnsTo s (cs.setWidth 16) d → ip ≤ d.limit →
       StackFor s (ss.setWidth 16) (rpl (cs.setWidth 16)) w →
       let u := returned { s with flags := returnedFlags s fl } (d.toSeg (cs.setWidth 16)) ip
         (w.toSeg (ss.setWidth 16)) sp
       ∃ t, exec .iret s = .next t.unblockNmi ∧ Outer u t ∧ t.cpl = rpl (cs.setWidth 16)) ∧
     (∀ es ds fs gs, s.opSize = .s32 → s.cpl = 0 → (Flags.ofImage fl).vm = true → s.stackHas 36 = true →
       s.stackItem .s32 12 = .ok es → s.stackItem .s32 16 = .ok ds → s.stackItem .s32 20 = .ok fs →
       s.stackItem .s32 24 = .ok gs → s.stackItem .s32 28 = .ok sp → s.stackItem .s32 32 = .ok ss → ip ≤ 0xFFFF →
       exec .iret s = .next (jumped { s with
         flags := Flags.ofImage fl
         segs := { es := .real (es.setWidth 16), cs := .real (cs.setWidth 16), ss := .real (ss.setWidth 16),
                   ds := .real (ds.setWidth 16), fs := .real (fs.setWidth 16), gs := .real (gs.setWidth 16) }
         gpr := { s.gpr with esp := sp } } ip).unblockNmi)) ∧
  (∀ (s : State) (i : Instr) (imm sel : BitVec 16) (ip sp ss : BitVec 32) (d w : Desc), s.plain →
     s.protectedMode = true → (i = Instr.retFar ∧ imm = 0) ∨ i = Instr.retFarImm imm → let n := s.opSize.bytes
     s.stackHas (4 * n + imm.toNat) = true →
     s.memRead .ss .w16 (addOffset s.stackSize (s.eReg s.stackSize .esp) (BitVec.ofNat 32 n)) = .ok sel →
     s.stackItem s.opSize 0 = .ok ip → s.stackItem s.opSize (2 * n + imm.toNat) = .ok sp →
     s.stackItem s.opSize (3 * n + imm.toNat) = .ok ss →
     s.cpl < rpl sel → ReturnsTo s sel d → ip ≤ d.limit → StackFor s (ss.setWidth 16) (rpl sel) w →
     ∃ t, exec i s = .next t ∧ Outer (returned s (d.toSeg sel) ip (w.toSeg (ss.setWidth 16)) (sp + imm.setWidth 32)) t ∧
       t.cpl = rpl sel)

/-- R208: BOUND does nothing while the signed register lies within the two signed bounds in memory, and is Interrupt 5,
with EIP at the BOUND, outside them; a register operand is #UD. -/
def Obligations.BoundTestsItsRegister : Prop :=
  ∀ (s : State) (r : Reg), s.plain → let w := s.opSize.width
    (∀ ea bs, s.memBytesAt (s.eaSeg ea) (s.eaOff ea) (2 * w.bytes) = .ok bs →
      let lower : BitVec w.bits := BitVec.ofNat _ (leNat (bs.take w.bytes))
      let upper : BitVec w.bits := BitVec.ofNat _ (leNat (bs.drop w.bytes))
      (lower.toInt ≤ (s.reg w r).toInt ∧ (s.reg w r).toInt ≤ upper.toInt → exec (.bound r (.mem ea)) s = .next s) ∧
      (¬ (lower.toInt ≤ (s.reg w r).toInt ∧ (s.reg w r).toInt ≤ upper.toInt) →
        Raises (.bound r (.mem ea)) s (.plain 5))) ∧
    (∀ q, Raises (.bound r (.reg q)) s excUD)

/-! ### Selectors and the system registers -/

namespace Sys2Proof.Claims

open Sys2Proof.Machine

/-- A selector names the descriptor `d` and CPL and its RPL may see it: both are at most its DPL unless it is a conforming
code segment (R331, R440). -/
def Sees (s : State) (sel : BitVec 16) (d : Desc) : Prop :=
  sel &&& 0xFFFC ≠ 0 ∧ s.descOf? sel = .ok (some d) ∧
    ((d.isCode = true ∧ d.ce = true) ∨ (s.cpl ≤ d.dpl ∧ rpl sel ≤ d.dpl))

/-- A selector that is null, beyond its table or not to be seen. -/
def SeesNothing (s : State) (sel : BitVec 16) : Prop :=
  sel &&& 0xFFFC = 0 ∨ s.descOf? sel = .ok none ∨ ∃ d, s.descOf? sel = .ok (some d) ∧
    ¬ ((d.isCode = true ∧ d.ce = true) ∨ (s.cpl ≤ d.dpl ∧ rpl sel ≤ d.dpl))

/-- Code and data segments and the system types that the table of LAR calls valid (R331). -/
def LarTakes (d : Desc) : Prop := d.isSeg = true ∨ d.typ ∉ [(0 : BitVec 4), 8, 10, 13]

/-- Code and data segments and the system types that have a limit: task state segments and LDTs (R346). -/
def LslTakes (d : Desc) : Prop := d.isSeg = true ∨ d.typ ∈ [(1 : BitVec 4), 2, 3, 9, 11]

/-- The limit of a descriptor in bytes: its 20 bits, or with the granularity bit 4096 times them plus 4095 (R111). -/
def byteLimit (d : Desc) : Nat :=
  let raw := (d.hi.toNat / 2 ^ 16 % 16) * 2 ^ 16 + d.lo.toNat % 2 ^ 16
  if d.hi.getLsbD 23 then raw * 4096 + 4095 else raw

/-- The base that LGDT and SGDT use: 24 bits of it at a 16-bit operand size (R334, R428). -/
def baseBits (s : State) (b : BitVec 32) : BitVec 32 := if s.opSize = .s16 then b &&& 0x00FFFFFF else b

/-- Exactly the given bytes are stored from an offset of a segment, and every other byte of memory reads as before. -/
def StoresBytes (s t : State) (r : SReg) (off : BitVec 32) (bs : List Byte) : Prop :=
  ∃ ps, s.physAddrs .write s.user bs.length (s.linear r off) = .ok ps ∧ t.mem = memSetBytes s.mem ps bs ∧
    ∀ a, a ∉ ps → memByte t.mem a = memByte s.mem a

/-- The special registers that an instruction reads, with their value (R42 to R45, R361). -/
def readForms (s : State) (r : Reg) : List (Instr × BitVec 32) :=
  let c := s.ctrl
  [(.movRCr r 0, c.cr0.image), (.movRCr r 2, c.cr2), (.movRCr r 3, c.cr3), (.movRDr r 0, c.dr0), (.movRDr r 1, c.dr1),
   (.movRDr r 2, c.dr2), (.movRDr r 3, c.dr3), (.movRDr r 6, c.dr6), (.movRDr r 7, c.dr7), (.movRTr r 6, c.tr6),
   (.movRTr r 7, c.tr7)]

/-- The special registers other than CR0 that an instruction writes, with what it makes of them (R43 to R45, R361). -/
def writeForms (s : State) (r : Reg) : List (Instr × Ctrl) :=
  let c := s.ctrl
  let v := s.reg .d32 r
  [(.movCrR 2 r, { c with cr2 := v }), (.movCrR 3 r, { c with cr3 := v &&& 0xFFFFF000 }),
   (.movDrR 0 r, { c with dr0 := v }), (.movDrR 1 r, { c with dr1 := v }), (.movDrR 2 r, { c with dr2 := v }),
   (.movDrR 3 r, { c with dr3 := v }), (.movDrR 6 r, { c with dr6 := v }), (.movDrR 7 r, { c with dr7 := v }),
   (.movTrR 6 r, { c with tr6 := v }), (.movTrR 7 r, { c with tr7 := v })]

/-- The moves whose code names no special register (R361). -/
def unnamedForms (r : Reg) : List Instr :=
  [.movRCr r 1, .movCrR 1 r, .movRCr r 4, .movCrR 4 r, .movRCr r 5, .movCrR 5 r, .movRCr r 6, .movCrR 6 r,
   .movRCr r 7, .movCrR 7 r, .movRDr r 4, .movDrR 4 r, .movRDr r 5, .movDrR 5 r, .movRTr r 0, .movTrR 0 r,
   .movRTr r 1, .movTrR 1 r, .movRTr r 2, .movTrR 2 r, .movRTr r 3, .movTrR 3 r, .movRTr r 4, .movTrR 4 r,
   .movRTr r 5, .movTrR 5 r]

/-- CR0 replaced; a change of PE is remembered until a control transfer (R502). -/
def withCr0 (s : State) (c : Cr0) : State :=
  { s with
    ctrl := { s.ctrl with cr0 := c }
    seq := { s.seq with peSwitch := if c.pe = s.ctrl.cr0.pe then s.seq.peSwitch else true } }

/-- The instructions of level 0 (R475): those of every mode, and the moves of special registers. -/
def privileged (s : State) (rm : RM) (ea : EA) (r : Reg) : List Instr :=
  .clts :: .hlt :: .lgdt (.mem ea) :: .lidt (.mem ea) :: .lmsw rm :: .movCrR 0 r ::
    List.append ((readForms s r).map Prod.fst) ((writeForms s r).map Prod.fst)

/-- The segment override prefixes. -/
def segPrefixes : List (Instr × SReg) :=
  [(.segEs, .es), (.segCs, .cs), (.segSs, .ss), (.segDs, .ds), (.segFs, .fs), (.segGs, .gs)]

/-- The prefixes of the LOCK and repeat group. -/
def groupPrefixes : List (Instr × GroupPrefix) := [(.lock, .lock), (.repne, .repne), (.rep, .rep)]

/-- The instructions that LOCK may precede, with a memory destination (R343). -/
def lockable (s : State) (ea : EA) (r : Reg) (i8 : BitVec 8) (iv : VImm) : List Instr :=
  List.append (([.add, .or, .adc, .sbb, .and, .sub, .xor] : List AluOp).flatMap fun op =>
      (rmForms op s (.mem ea) r i8 iv).map Form.instr) <|
    List.append (([.test, .set, .reset, .complement] : List BitOp).flatMap fun op =>
      [bitImmForm op (.mem ea) i8, bitRegForm op (.mem ea) r])
    [.incRm8 (.mem ea), .incRmv (.mem ea), .decRm8 (.mem ea), .decRmv (.mem ea), .notRm8 (.mem ea), .notRmv (.mem ea),
     .negRm8 (.mem ea), .negRmv (.mem ea), .xchgRm8R8 (.mem ea) r, .xchgRmvRv (.mem ea) r]

end Sys2Proof.Claims

/-- R331, R346, R440, R207: LAR, LSL, VERR and VERW on a readable selector in Protected Mode set ZF if the selector's
descriptor is seen and fits, and else clear it and do nothing more; LAR loads its access rights under 00FxFF00H, LSL its
limit in bytes. ARPL raises the RPL of its destination to that of its source and sets ZF, or clears ZF. R207 leaves open
whether a memory destination is then written back; that no store is made, so that all but ZF stays as it is, is the
model's choice (log 55). -/
def Obligations.SelectorProbesReportInZf : Prop :=
  ∀ (s : State) (rm : RM) (r : Reg), s.plain → s.protectedMode = true →
    let zf (b : Bool) : Flags := { s.flags with zf := b }
    (∀ sel, s.readRM .w16 rm = .ok sel →
      (SeesNothing s sel → ∀ i ∈ [Instr.lar r rm, .lsl r rm, .verr rm, .verw rm], OnlyFlags i s (zf false)) ∧
      (∀ d, Sees s sel d →
        (LarTakes d → ∃ t x, exec (.lar r rm) s = .next t ∧ t.flags = zf true ∧
          t.gpr = (s.setEReg s.opSize r x).gpr ∧ x &&& 0xFFF0FFFF = d.hi &&& 0x00F0FF00 ∧ Kept s t ∧ SameMem s t) ∧
        (¬ LarTakes d → OnlyFlags (.lar r rm) s (zf false)) ∧
        (LslTakes d → ∃ t x, exec (.lsl r rm) s = .next t ∧ t.flags = zf true ∧
          t.gpr = (s.setEReg s.opSize r x).gpr ∧ x.toNat = byteLimit d ∧ Kept s t ∧ SameMem s t) ∧
        (¬ LslTakes d → OnlyFlags (.lsl r rm) s (zf false)) ∧
        OnlyFlags (.verr rm) s (zf (d.isData || (d.isCode && d.rw))) ∧
        OnlyFlags (.verw rm) s (zf (d.isData && d.rw)))) ∧
    (∀ a, s.readDest .w16 rm = .ok a →
      (rpl a < rpl (s.reg .w16 r) → ∃ t, exec (.arpl rm r) s = .next t ∧
        Stores s t .w16 rm (withRpl a (rpl (s.reg .w16 r))) ∧ t.flags = zf true ∧ Kept s t) ∧
      (¬ rpl a < rpl (s.reg .w16 r) → OnlyFlags (.arpl rm r) s (zf false)))

/-- R431, R437, R432, R428: SLDT and STR store the selector of LDTR and TR, SMSW the low word of CR0, SGDT and SIDT six
bytes, the limit and then the base; a register operand of SGDT and SIDT is #UD. -/
def Obligations.SystemRegisterStores : Prop :=
  ∀ (s : State), s.plain →
    (∀ rm, s.protectedMode = true → s.checkRM .w16 rm = .ok () →
      (∃ t, exec (.sldt rm) s = .next t ∧ Stores s t .w16 rm s.tables.ldtr.sel ∧ t.flags = s.flags ∧ Kept s t) ∧
      (∃ t, exec (.str rm) s = .next t ∧ Stores s t .w16 rm s.tables.tr.sel ∧ t.flags = s.flags ∧ Kept s t)) ∧
    (∀ ea, s.checkRM .w16 (.mem ea) = .ok () → ∃ t, exec (.smsw (.mem ea)) s = .next t ∧
      Stores s t .w16 (.mem ea) (s.ctrl.cr0.image.setWidth 16) ∧ t.flags = s.flags ∧ Kept s t) ∧
    (∀ q, ∃ t x, exec (.smsw (.reg q)) s = .next t ∧ t.gpr = (s.setEReg s.opSize q x).gpr ∧
      x.setWidth 16 = s.ctrl.cr0.image.setWidth 16 ∧ t.flags = s.flags ∧ Kept s t ∧ SameMem s t) ∧
    (∀ ea, s.writeCheck (s.eaSeg ea) (s.eaOff ea) 6 = .ok () →
      ∀ i ∈ [(Instr.sgdt (.mem ea), s.tables.gdtr), (.sidt (.mem ea), s.tables.idtr)],
      ∃ t, exec i.1 s = .next t ∧ t.gpr = s.gpr ∧ t.flags = s.flags ∧ Kept s t ∧
        StoresBytes s t (s.eaSeg ea) (s.eaOff ea) (leBytes 2 i.2.limit.toNat ++ leBytes 4 (baseBits s i.2.base).toNat)) ∧
    (∀ q, Raises (.sgdt (.reg q)) s excUD ∧ Raises (.sidt (.reg q)) s excUD)

/-- R334, R341, R347: at level 0 LGDT and LIDT load a limit and a base from six bytes; LLDT takes a null selector or a
present LDT of the GDT; LTR takes a present task state segment that is available and marks it busy in the GDT. -/
def Obligations.SystemRegisterLoads : Prop :=
  ∀ (s : State), s.plain → s.cpl = 0 →
    (∀ ea bs, s.memBytesAt (s.eaSeg ea) (s.eaOff ea) 6 = .ok bs →
      let x : TableReg := { limit := BitVec.ofNat 16 (leNat (bs.take 2))
                            base := baseBits s (BitVec.ofNat 32 (leNat (bs.drop 2))) }
      exec (.lgdt (.mem ea)) s = .next { s with tables := { s.tables with gdtr := x } } ∧
      exec (.lidt (.mem ea)) s = .next { s with tables := { s.tables with idtr := x } }) ∧
    (∀ q, Raises (.lgdt (.reg q)) s excUD ∧ Raises (.lidt (.reg q)) s excUD) ∧
    (∀ rm sel, s.protectedMode = true → s.readRM .w16 rm = .ok sel →
      (sel &&& 0xFFFC = 0 → (∃ x, exec (.lldt rm) s = .next { s with tables := { s.tables with ldtr := x } } ∧
        x.sel = sel ∧ x.valid = false) ∧ Raises (.ltr rm) s (excGP 0)) ∧
      (∀ d, sel &&& 0xFFFC ≠ 0 → sel.getLsbD 2 = false → s.descOf? sel = .ok (some d) →
        (d.isSeg = false → d.typ = 2 → d.present = true →
          ∃ x, exec (.lldt rm) s = .next { s with tables := { s.tables with ldtr := x } } ∧
            x.sel = sel ∧ x.valid = true ∧ x.base = d.base ∧ x.limit.toNat = byteLimit d) ∧
        (¬ (d.isSeg = false ∧ d.typ = 2) → Raises (.lldt rm) s (excGP (sel &&& 0xFFFC))) ∧
        (d.isSeg = false → d.typ = 2 → d.present = false → Raises (.lldt rm) s (excNP (sel &&& 0xFFFC))) ∧
        (∀ p, d.isSeg = false → (d.typ = 1 ∨ d.typ = 9) → d.present = true →
          s.physAddr .write false (s.tables.gdtr.base + (sel &&& 0xFFF8).setWidth 32 + 5) = .ok p →
          ∃ t x, exec (.ltr rm) s = .next t ∧ t.tables = { s.tables with tr := x } ∧ x.sel = sel ∧ x.valid = true ∧
            x.base = d.base ∧ x.limit.toNat = byteLimit d ∧ x.is386 = (d.typ == 9) ∧ t.gpr = s.gpr ∧
            t.flags = s.flags ∧ Kept s { t with tables := s.tables } ∧
            memByte t.mem p = d.hi.extractLsb' 8 8 ||| 2 ∧ ∀ a, a ≠ p → memByte t.mem a = memByte s.mem a) ∧
        (¬ (d.isSeg = false ∧ (d.typ = 1 ∨ d.typ = 9)) → Raises (.ltr rm) s (excGP (sel &&& 0xFFFC))) ∧
        (d.isSeg = false → (d.typ = 1 ∨ d.typ = 9) → d.present = false →
          Raises (.ltr rm) s (excNP (sel &&& 0xFFFC)))))

/-- R361, R42 to R45: at level 0 MOV reads and writes CR0, CR2, CR3, DR0 to DR3, DR6, DR7, TR6 and TR7 as 32 bits and leaves
the six status flags undefined; a code that names none is #UD. CR0 keeps PE, MP, EM, TS, ET and PG, bits 0 to 4 and 31.
R342, R244: LMSW loads MP, EM and TS and can set PE but not clear it; CLTS clears TS. -/
def Obligations.ControlDebugAndTestRegisters : Prop :=
  (∀ (s : State) (r : Reg), s.plain →
     (s.cpl = 0 → ∀ i ∈ readForms s r, ∃ t, exec i.1 s = .next t ∧ t.gpr = s.gpr.write .d32 r i.2 ∧
       s.flags.sameControl t.flags ∧ Kept s t ∧ SameMem s t) ∧
     (s.cpl = 0 → ∀ i ∈ writeForms s r, ∃ t, exec i.1 s = .next t ∧ t.ctrl = i.2 ∧ t.gpr = s.gpr ∧
       s.flags.sameControl t.flags ∧ Kept s { t with ctrl := s.ctrl } ∧ SameMem s t) ∧
     (s.cpl = 0 → let v := s.reg .d32 r
       let u := withCr0 s { pe := v.getLsbD 0, mp := v.getLsbD 1, em := v.getLsbD 2, ts := v.getLsbD 3,
                            et := v.getLsbD 4, pg := v.getLsbD 31 }
       ∃ t, exec (.movCrR 0 r) s = .next t ∧ t.ctrl = u.ctrl ∧ t.seq = u.seq ∧ t.gpr = s.gpr ∧
         s.flags.sameControl t.flags ∧ Kept s { t with ctrl := s.ctrl, seq := s.seq } ∧ SameMem s t) ∧
     (∀ i ∈ unnamedForms r, Raises i s excUD) ∧
     (let c := s.ctrl.cr0
      c.image.getLsbD 0 = c.pe ∧ c.image.getLsbD 1 = c.mp ∧ c.image.getLsbD 2 = c.em ∧ c.image.getLsbD 3 = c.ts ∧
       c.image.getLsbD 4 = c.et ∧ c.image.getLsbD 31 = c.pg ∧ ∀ k, 5 ≤ k → k ≤ 30 → c.image.getLsbD k = false)) ∧
  (∀ (s : State), s.plain → s.cpl = 0 → let c := s.ctrl.cr0
     (∀ rm v, s.readRM .w16 rm = .ok v → exec (.lmsw rm) s = .next (withCr0 s { c with
       pe := c.pe || v.getLsbD 0, mp := v.getLsbD 1, em := v.getLsbD 2, ts := v.getLsbD 3 })) ∧
     exec .clts s = .next { s with ctrl := { s.ctrl with cr0 := { c with ts := false } } })

/-- R271, R441, R478: HLT at level 0 halts. WAIT is #NM if MP and TS are set, else #MF if ERROR# is asserted, else it is
executed again while BUSY# is active, else nothing. ESC is #NM if EM or TS is set, else, no coprocessor being attached,
nothing once its operand's address is checked. That one byte of the operand of ESC is checked, and that WAIT reads both pins
although D22 has them inactive without a coprocessor, is the model's choice (log 16), and so is that an inhibit state lasts
while WAIT waits (log 17). -/
def Obligations.HaltWaitAndEscape : Prop :=
  ∀ (s : State), s.plain → let c := s.ctrl.cr0
    (s.cpl = 0 → exec .hlt s = .next { s with seq := { s.seq with halted := true } }) ∧
    (c.mp = true ∧ c.ts = true → Raises .wait s (.plain 7)) ∧
    (¬ (c.mp = true ∧ c.ts = true) → s.pins.error = true → Raises .wait s (.plain 16)) ∧
    (¬ (c.mp = true ∧ c.ts = true) → s.pins.error = false → s.pins.busy = true →
      exec .wait s = .next { s with
        eip := s.seq.startEip, seq := { s.seq with inhibit := s.seq.held, stepTrap := false } }) ∧
    (¬ (c.mp = true ∧ c.ts = true) → s.pins.error = false → s.pins.busy = false → exec .wait s = .next s) ∧
    (∀ a b rm, c.em = true ∨ c.ts = true → Raises (.esc a b rm) s (.plain 7)) ∧
    (∀ a b, c.em = false → c.ts = false → (∀ q, exec (.esc a b (.reg q)) s = .next s) ∧
      ∀ ea bs, s.memBytesAt (s.eaSeg ea) (s.eaOff ea) 1 = .ok bs → exec (.esc a b (.mem ea)) s = .next s)

/-! ### Prefixes and privilege -/

/-- R141, R142: a prefix byte joins the prefixes of the instruction in progress; an exact repeat changes nothing and
another prefix of the same group is refused (D16). The size prefixes select the other size. -/
def Obligations.PrefixesJoinTheInstruction : Prop :=
  ∀ (s : State), let p := s.seq.pfx
    let with' (q : Prefixes) : State := { s with seq := { s.seq with pfx := q } }
    (∀ i ∈ segPrefixes, (p.seg = none ∨ p.seg = some i.2 → exec i.1 s = .next (with' { p with seg := some i.2 })) ∧
      ∀ q, p.seg = some q → q ≠ i.2 → exec i.1 s = .refused .conflictingPrefix) ∧
    (∀ i ∈ groupPrefixes,
      (p.group = none ∨ p.group = some i.2 → exec i.1 s = .next (with' { p with group := some i.2 })) ∧
      ∀ q, p.group = some q → q ≠ i.2 → exec i.1 s = .refused .conflictingPrefix) ∧
    (∃ t, exec .opsize s = .next t ∧ t = with' { p with opsize := true } ∧
      (p.opsize = false → t.opSize ≠ s.opSize) ∧ t.addrSize = s.addrSize) ∧
    (∃ t, exec .addrsize s = .next t ∧ t = with' { p with addrsize := true } ∧
      (p.addrsize = false → t.addrSize ≠ s.addrSize) ∧ t.opSize = s.opSize)

/-- R343, R408: LOCK before an instruction that is not in its list, or on a register, is #UD; so is REP before one that is
no string instruction, and REPNE before one that is not CMPS or SCAS. -/
def Obligations.MisusedPrefixesAreUndefinedOpcodes : Prop :=
  ∀ (s : State) (i : Instr), isPrefixRow i = false →
    (s.seq.pfx.group = some .lock → (∀ ea r i8 iv, i ∉ lockable s ea r i8 iv) → Raises i s excUD) ∧
    (s.seq.pfx.group = some .rep → (∀ j ∈ repForms s ++ repeForms s, i ≠ j.1) → Raises i s excUD) ∧
    (s.seq.pfx.group = some .repne → (∀ j ∈ repeForms s, i ≠ j.1) → Raises i s excUD)

/-- R475, R476: outside Protected Mode ARPL, LAR, LSL, VERR, VERW, SLDT, STR, LLDT and LTR are #UD. Outside level 0, V86 mode
included, the privileged instructions are #GP(0), LLDT and LTR in Protected Mode. -/
def Obligations.ModeAndPrivilegeChecks : Prop :=
  (∀ (s : State) (rm : RM) (r : Reg), s.plain → s.protectedMode = false →
     ∀ i ∈ [Instr.arpl rm r, .lar r rm, .lsl r rm, .verr rm, .verw rm, .sldt rm, .str rm, .lldt rm, .ltr rm],
       Raises i s excUD) ∧
  (∀ (s : State) (rm : RM) (ea : EA) (r : Reg), s.plain → s.cpl ≠ 0 →
     (∀ i ∈ privileged s rm ea r, Raises i s (excGP 0)) ∧
     (s.protectedMode = true → Raises (.lldt rm) s (excGP 0) ∧ Raises (.ltr rm) s (excGP 0)))

/-- R475, R392: whatever instruction is executed outside level 0, the descriptor table registers, LDTR, TR, the control,
debug and test registers but for CR2, and IOPL stay as they are. -/
def Obligations.OuterLevelsKeepSystemRegisters : Prop :=
  ∀ (s t : State) (i : Instr), s.cpl ≠ 0 → exec i s = .next t →
    t.tables = s.tables ∧ { t.ctrl with cr2 := s.ctrl.cr2 } = s.ctrl ∧ t.flags.iopl = s.flags.iopl

/-! ### The machine as a whole -/

namespace Sys2Proof.Claims

open Sys2Proof.Machine

/-- The values that R500 gives the machine after RESET. -/
def AfterReset (s : State) : Prop :=
  s.flags.image = 0x00000002 ∧ s.eip = 0x0000FFF0 ∧
    s.segs.cs.sel = 0xF000 ∧ s.segs.cs.base = 0xFFFF0000 ∧
    (∀ r ∈ [SReg.es, .ss, .ds, .fs, .gs], (s.seg r).sel = 0 ∧ (s.seg r).base = 0) ∧
    (∀ r, (s.seg r).limit = 0xFFFF ∧ (s.seg r).present = true ∧ (s.seg r).valid = true ∧ (s.seg r).db = false ∧
      (s.seg r).allows false = true ∧ (s.seg r).allows true = true) ∧
    s.ctrl.cr0.pe = false ∧ s.ctrl.cr0.mp = false ∧ s.ctrl.cr0.em = false ∧ s.ctrl.cr0.ts = false ∧
    s.ctrl.cr0.pg = false ∧ s.tables.idtr = { base := 0, limit := 0x3FF } ∧
    s.tables.ldtr.sel &&& 0xFFFC = 0 ∧ s.tables.ldtr.valid = false ∧ s.tables.tr.sel &&& 0xFFFC = 0 ∧
    s.tables.tr.valid = false ∧ s.ctrl.dr7 = 0 ∧ s.cpl = 0 ∧ s.seq.inhibit = .none ∧ s.seq.halted = false ∧
    s.seq.shutdown = false ∧ s.seq.stale = []

/-- The state in which an event is delivered at a boundary: not halted, and no instruction in progress. -/
def atBoundary (s : State) : State :=
  { s with seq := { s.seq with halted := false, stepTrap := false, pfx := Prefixes.empty } }

/-- `k` prefix rows are read and run from `s`, then the row `i`, which is no prefix, is read; `t` is the state in which it
runs, EIP past it (R156). -/
def Reads : Nat → State → Instr → State → Prop
  | 0, s, i, t => isPrefixRow i = false ∧ ∃ n, s.decodeNext = .ok (i, n) ∧ t = s.advance n
  | k + 1, s, i, t => ∃ p n u, isPrefixRow p = true ∧ s.decodeNext = .ok (p, n) ∧ exec p (s.advance n) = .next u ∧
      Reads k u i t

/-- The bytes from CS:EIP lie within the limit of CS, are none that a store made stale, and are the given ones. -/
def CodeIs (s : State) (bs : List Byte) : Prop :=
  s.eip.toNat + bs.length ≤ s.segs.cs.limit.toNat + 1 ∧
    ∀ k b, bs[k]? = some b → s.segs.cs.base + BitVec.ofNat 32 (s.eip.toNat + k) ∉ s.seq.stale ∧
      memByte s.mem (s.segs.cs.base + BitVec.ofNat 32 (s.eip.toNat + k)).toNat = b

end Sys2Proof.Claims

/-- R91, R94: with paging off, what a write of any width through a segment stores is what a read there gives. The byte at
each address holds its eight bits, the low ones at the lowest address, and no other byte changes. -/
def Obligations.WritesAreReadBackLittleEndian : Prop :=
  ∀ (s t : State) (r : SReg) (w : Width) (off : BitVec 32) (v : BitVec w.bits), s.mem.wf = true →
    s.ctrl.cr0.pg = false → s.memWrite r w off v = .ok t →
    t.memRead r w off = .ok v ∧ t.mem.wf = true ∧
    (∀ k, k < w.bytes → memByte t.mem (s.linear r off + BitVec.ofNat 32 k).toNat = v.extractLsb' (8 * k) 8) ∧
    (∀ a, (∀ k, k < w.bytes → a ≠ (s.linear r off + BitVec.ofNat 32 k).toNat) → memByte t.mem a = memByte s.mem a)

/-- R500: RESET, in any state, gives the values of the table and changes no byte of memory; they are also those of the
initial state. Undefined values are not stated. -/
def Obligations.ResetGivesTheTableOfValues : Prop :=
  AfterReset State.reset ∧
    ∀ s : State, s.pins.reset = true → ∃ t, step s = .next t ∧ AfterReset t ∧ SameMem s t

/-- R469, R470, R479, R52: at an instruction boundary without RESET a machine in shutdown stays as it is; an NMI that is
not held off or inhibited is delivered with vector 2 and holds further NMIs off; else a maskable request is delivered
with its vector if IF = 1 and nothing inhibits it; a halted machine without either stays as it is. That the step which
recognises a request clears its pin, and that a request which is not recognised stays on its pin, is the model's choice
(log 8): R469 and D21 only make the requests inputs at each boundary. -/
def Obligations.BoundaryEventsAreTakenInOrder : Prop :=
  ∀ (s : State), s.pins.reset = false →
    let nmi := s.pins.nmi = true ∧ s.seq.nmiBlocked = false ∧ s.seq.inhibit ≠ .all
    let open' := s.flags.intf = true ∧ s.seq.inhibit = .none
    (s.seq.shutdown = true → step s = .next s) ∧
    (s.seq.shutdown = false → nmi →
      step s = (atBoundary { s with pins := { s.pins with nmi := false },
                                    seq := { s.seq with nmiBlocked := true } }).deliver deliverFuel
        { vec := 2, code := none, ext := true, software := false, exception := false }) ∧
    (∀ v, s.seq.shutdown = false → ¬ nmi → s.pins.intr = some v → open' →
      step s = (atBoundary { s with pins := { s.pins with intr := none } }).deliver deliverFuel
        { vec := v, code := none, ext := true, software := false, exception := false }) ∧
    (s.seq.shutdown = false → ¬ nmi → (s.pins.intr = none ∨ ¬ open') → s.seq.halted = true → step s = .next s)

/-- R462, R472: an exception that cannot be delivered becomes the exception of its delivery; a contributory one during a
contributory one, and a contributory one or a page fault during a page fault, become #DF with code 0; one during #DF
shuts the machine down. Any other, such as a page fault during a contributory one, is delivered itself. That a fault of a
delivery inherits the EXT of its event, 0 while an exception is delivered, is the model's reading of R462 (log 19; the
vector V213 has 1 there, for a delivery that R472 turns into #DF). -/
def Obligations.DeliveryFailuresEscalate : Prop :=
  ∀ (s : State) (e : Event) (n : Nat),
    let contributory := [(0 : BitVec 8), 10, 11, 12, 13]
    (∀ t, s.enter e = .ok t → s.deliver (n + 1) e = .next t) ∧
    (∀ x, s.enter e = .error (.exc x) → e.exception = true → e.vec = 8 →
      s.deliver (n + 1) e = .next { s with seq := { s.seq with shutdown := true } }) ∧
    (∀ x, s.enter e = .error (.exc x) → e.exception = true →
      (e.vec ∈ contributory ∧ x.vec ∈ contributory) ∨ (e.vec = 14 ∧ (x.vec ∈ contributory ∨ x.vec = 14)) →
      s.deliver (n + 1) e = (s.loadCr2 x).deliver n
        { vec := 8, code := some 0, ext := e.ext, software := false, exception := true }) ∧
    (∀ x, s.enter e = .error (.exc x) →
      (e.exception = false ∨ (e.vec ≠ 8 ∧ ¬ (e.vec ∈ contributory ∧ x.vec ∈ contributory) ∧
        ¬ (e.vec = 14 ∧ (x.vec ∈ contributory ∨ x.vec = 14)))) →
      s.deliver (n + 1) e = (s.loadCr2 x).deliver n
        { vec := x.vec, code := x.code, ext := e.ext, software := false, exception := true })

/-- At a boundary without events, a step runs the instruction that is read after its prefixes, at most 15 of them. After
it, unless the machine did shut down, a switch of PE that no jump has followed is refused (R502), and a single-step trap
is delivered if TF was set at its start and nothing inhibits it (R477); that the trap of an HLT ends the halt is the
model's reading (log 18). -/
def Obligations.StepRunsDecodedInstruction : Prop :=
  ∀ (s u : State) (i : Instr) (k : Nat), s.quiet → k < 16 → Reads k s.beginInstr i u →
    (∀ t, exec i u = .next t →
      (s.seq.peSwitch = true ∧ t.seq.peSwitch = true ∧ t.seq.shutdown = false →
        step s = .refused .modeSwitchWithoutJump) ∧
      (¬ (s.seq.peSwitch = true ∧ t.seq.peSwitch = true ∧ t.seq.shutdown = false) →
        (t.seq.stepTrap = true ∧ t.seq.inhibit ≠ .all ∧ t.seq.shutdown = false →
          step s = (atBoundary t).deliver deliverFuel
            { vec := 1, code := none, ext := false, software := false, exception := true }) ∧
        (¬ (t.seq.stepTrap = true ∧ t.seq.inhibit ≠ .all ∧ t.seq.shutdown = false) →
          step s = .next { t with seq := { t.seq with stepTrap := false, pfx := Prefixes.empty } }))) ∧
    (∀ f, exec i u = .fault f → step s = .fault f) ∧ (∀ x, exec i u = .refused x → step s = .refused x)

/-- Decoding the encoding of a well-formed instruction gives it back, whatever bytes follow (R140 to R161). -/
def Obligations.DecodeOfEncodeIsIdentity : Prop :=
  ∀ (os as : Size) (i : Instr) (rest : List Byte), i.wellFormed os as = true →
    decode os as (encode i ++ rest) = .ok i rest

/-- R107, R156: with paging off, an instruction's encoding at CS:EIP, within the limit and not stale, is what the fetch
there reads and decodes. -/
def Obligations.FetchDecodesTheEncodedInstruction : Prop :=
  ∀ (s : State) (i : Instr), s.ctrl.cr0.pg = false → i.wellFormed s.opSize s.addrSize = true →
    CodeIs s (encode i) → s.decodeNext = .ok (i, (encode i).length)

/-- Words written out from the encodings of the rules decode to their instructions. -/
def Obligations.WrittenOutWordsDecode : Prop :=
  decode .s16 .s16 [0x00, 0xD8] = .ok (.addRm8R8 (.reg .eax) .ebx) [] ∧
  decode .s32 .s32 [0x81, 0x44, 0x8B, 0x10, 0x78, 0x56, 0x34, 0x12] =
    .ok (.addRmvImmv (.mem (.sib 2 (some .ecx) .ebx (.short 0x10))) (.w32 0x12345678)) [] ∧
  decode .s16 .s16 [0x63, 0xC8] = .ok (.arpl (.reg .eax) .ecx) [] ∧
  decode .s16 .s16 [0x0F, 0xAF, 0xC3] = .ok (.imulRvRmv .eax (.reg .ebx)) [] ∧
  decode .s16 .s16 [0xEA, 0x00, 0x01, 0x00, 0xF0] = .ok (.jmpFar (.w16 0x0100) 0xF000) [] ∧
  decode .s32 .s32 [0x0F, 0x01, 0x15, 0x00, 0x10, 0x00, 0x00] = .ok (.lgdt (.mem (.a32abs 0x1000))) [] ∧
  decode .s16 .s16 [0xCD, 0x21] = .ok (.intN 0x21) [] ∧
  decode .s16 .s16 [0x0F, 0x20, 0xC0] = .ok (.movRCr .eax 0) [] ∧
  decode .s16 .s16 [0x8D] = .truncated ∧ decode .s16 .s16 [0x0F, 0xFF] = .undefinedOpcode

/-- Every step from a state that meets the invariant gives one that meets it: memory is canonical, CR3 has its low bits
clear, CS and SS hold a segment, LDTR and TR are invalid or name a descriptor of the GDT, and no prefix and no single-step
trap is left over between steps. -/
def Obligations.EveryStepKeepsInvariant : Prop := ∀ s t : State, s.Inv → step s = .next t → t.Inv

/-- The reset state meets the invariant of `EveryStepKeepsInvariant`. -/
def Obligations.InvariantHoldsAtReset : Prop := State.reset.Inv
end

