-- ==== Sys2Proof/Laws/Memory.lean ====
section
/-! SUPPORT. Laws/Memory.lean: the canonical form is kept, reads after writes, and the byte order. -/

namespace Sys2Proof.Machine

/-! ### The canonical form -/

theorem memWfFrom_le {lo hi : Nat} {m : Memory} (h : memWfFrom hi m = true) (hle : lo ≤ hi) :
    memWfFrom lo m = true := by
  cases m with
  | nil => rfl
  | cons c t =>
    simp only [memWfFrom, Bool.and_eq_true, decide_eq_true_eq] at h ⊢
    exact ⟨⟨le_trans hle h.1.1, h.1.2⟩, h.2⟩

theorem memSet_wfFrom {lo : Nat} {m : Memory} {a : Nat} {v : Byte} (h : memWfFrom lo m = true) (ha : lo ≤ a) :
    memWfFrom lo (memSet m a v) = true := by
  induction m generalizing lo with
  | nil =>
    unfold memSet
    split
    · rfl
    · next hv => simp [memWfFrom, ha, hv]
  | cons c t ih =>
    obtain ⟨k, b⟩ := c
    have h' := h
    simp only [memWfFrom, Bool.and_eq_true, decide_eq_true_eq] at h'
    obtain ⟨⟨hk, hb⟩, ht⟩ := h'
    unfold memSet
    split
    · next hak =>
      split
      · exact h
      · next hv => simp [memWfFrom, ha, hv, ht]; exact ⟨by omega, by simpa using hb⟩
    · next hak =>
      split
      · next he =>
        subst he
        split
        · exact memWfFrom_le ht (by omega)
        · next hv => simp [memWfFrom, ha, hv, ht]
      · next hne =>
        have : k + 1 ≤ a := by omega
        simp [memWfFrom, hk, ih ht this]
        simpa using hb

/-- Writing a byte keeps the canonical form. -/
theorem memSet_wf {m : Memory} (h : m.wf = true) (a : Nat) (v : Byte) : (Memory.wf (memSet m a v)) = true :=
  memSet_wfFrom h (Nat.zero_le a)

/-- Writing bytes keeps the canonical form. -/
theorem memSetBytes_wf {m : Memory} (h : m.wf = true) (ps : List Nat) (bs : List Byte) :
    (Memory.wf (memSetBytes m ps bs)) = true := by
  induction ps generalizing m bs with
  | nil => simpa [memSetBytes] using h
  | cons p ps ih =>
    cases bs with
    | nil => simpa [memSetBytes] using h
    | cons b bs => exact ih (memSet_wf h p b) bs

/-! ### Reads after writes -/

/-- A byte below every listed address is not listed. -/
theorem memByte_below {lo : Nat} {m : Memory} {a : Nat} (h : memWfFrom lo m = true) (ha : a < lo) :
    memByte m a = unlistedByte := by
  induction m generalizing lo with
  | nil => rfl
  | cons c t ih =>
    obtain ⟨k, b⟩ := c
    simp only [memWfFrom, Bool.and_eq_true, decide_eq_true_eq] at h
    obtain ⟨⟨hk, -⟩, ht⟩ := h
    have : a ≠ k := by omega
    simp [memByte, this]
    exact ih ht (by omega)

/-- The byte written is the byte read. -/
theorem memByte_memSet_same {lo : Nat} {m : Memory} (h : memWfFrom lo m = true) (a : Nat) (v : Byte) :
    memByte (memSet m a v) a = v := by
  induction m generalizing lo with
  | nil =>
    unfold memSet
    split
    · next hv => simp [memByte, hv]
    · simp [memByte]
  | cons c t ih =>
    obtain ⟨k, b⟩ := c
    have hh := h
    simp only [memWfFrom, Bool.and_eq_true, decide_eq_true_eq] at hh
    unfold memSet
    split
    · next hak =>
      split
      · next hv =>
        rw [hv]
        have : a ≠ k := by omega
        simp [memByte, this]
        exact memByte_below hh.2 (by omega)
      · simp [memByte]
    · split
      · next he =>
        subst he
        split
        · next hv => rw [hv]; exact memByte_below hh.2 (by omega)
        · simp [memByte]
      · next hne => simp [memByte, hne, ih hh.2]

/-- Every other byte reads as before. -/
theorem memByte_memSet_other (m : Memory) {a c : Nat} (v : Byte) (hca : c ≠ a) :
    memByte (memSet m a v) c = memByte m c := by
  induction m with
  | nil =>
    unfold memSet
    split
    · rfl
    · simp [memByte, hca]
  | cons e t ih =>
    obtain ⟨k, b⟩ := e
    unfold memSet
    split
    · split
      · rfl
      · simp [memByte, hca]
    · split
      · next he =>
        subst he
        split
        · simp [memByte, hca]
        · simp [memByte, hca]
      · by_cases hck : c = k <;> simp [memByte, hck, ih]

/-- Bytes outside the written addresses read as before. -/
theorem memByte_memSetBytes_other (m : Memory) (ps : List Nat) (bs : List Byte) {a : Nat} (h : a ∉ ps) :
    memByte (memSetBytes m ps bs) a = memByte m a := by
  induction ps generalizing m bs with
  | nil => rfl
  | cons p ps ih =>
    cases bs with
    | nil => rfl
    | cons b bs =>
      simp only [List.mem_cons, not_or] at h
      rw [memSetBytes, ih _ _ h.2, memByte_memSet_other _ _ h.1]

/-- Bytes written at different addresses read back. -/
theorem memBytes_memSetBytes_same {m : Memory} (hm : m.wf = true) (ps : List Nat) (bs : List Byte)
    (hd : ps.Nodup) (hl : ps.length = bs.length) : memBytes (memSetBytes m ps bs) ps = bs := by
  induction ps generalizing m bs with
  | nil => cases bs with
    | nil => rfl
    | cons b bs => simp at hl
  | cons p ps ih =>
    cases bs with
    | nil => simp at hl
    | cons b bs =>
      simp only [List.nodup_cons] at hd
      have h1 := ih (memSet_wf hm p b) bs hd.2 (by simpa using hl)
      simp only [memBytes, List.map_cons, memSetBytes] at h1 ⊢
      rw [h1, memByte_memSetBytes_other _ _ _ hd.1, memByte_memSet_same (lo := 0) hm]

/-! ### The byte order -/

@[simp] theorem leBytes_length (n v : Nat) : (leBytes n v).length = n := by
  induction n generalizing v with
  | zero => rfl
  | succ n ih => simp [leBytes, ih]

/-- The value of the bytes of a value is the value, cut to that many bytes. -/
theorem leNat_leBytes (n v : Nat) : leNat (leBytes n v) = v % 256 ^ n := by
  induction n generalizing v with
  | zero => simp [leBytes, leNat, Nat.mod_one]
  | succ n ih =>
    simp only [leBytes, leNat, ih, BitVec.toNat_ofNat]
    rw [show 256 ^ (n + 1) = 256 * 256 ^ n by ring, Nat.mod_mul]

@[simp] theorem memBytes_length (m : Memory) (ps : List Nat) : (memBytes m ps).length = ps.length := by
  simp [memBytes]

end Sys2Proof.Machine
end

