-- ==== Sys2Proof/Laws/State.lean ====
section
/-! SUPPORT. Laws/State.lean: what each update of the state leaves in each field. -/

namespace Sys2Proof.Machine

variable (s : State)

/-! ### Registers and segment registers -/

@[simp] theorem Gpr.get_set_same (g : Gpr) (r : Reg) (v : BitVec 32) : (g.set r v).get r = v := by
  cases r <;> rfl

theorem Gpr.get_set_other (g : Gpr) {r q : Reg} (v : BitVec 32) (h : q ≠ r) : (g.set r v).get q = g.get q := by
  cases r <;> cases q <;> first | rfl | exact absurd rfl h

@[simp] theorem Segs.get_set_same (g : Segs) (r : SReg) (v : SegReg) : (g.set r v).get r = v := by
  cases r <;> rfl

theorem Segs.get_set_other (g : Segs) {r q : SReg} (v : SegReg) (h : q ≠ r) : (g.set r v).get q = g.get q := by
  cases r <;> cases q <;> first | rfl | exact absurd rfl h

/-! ### Updates of registers -/

@[simp] theorem State.setReg_gpr (w : Width) (r : Reg) (v : BitVec w.bits) : (s.setReg w r v).gpr = s.gpr.write w r v := rfl
@[simp] theorem State.setReg_eip (w : Width) (r : Reg) (v : BitVec w.bits) : (s.setReg w r v).eip = s.eip := rfl
@[simp] theorem State.setReg_flags (w : Width) (r : Reg) (v : BitVec w.bits) : (s.setReg w r v).flags = s.flags := rfl
@[simp] theorem State.setReg_segs (w : Width) (r : Reg) (v : BitVec w.bits) : (s.setReg w r v).segs = s.segs := rfl
@[simp] theorem State.setReg_tables (w : Width) (r : Reg) (v : BitVec w.bits) : (s.setReg w r v).tables = s.tables := rfl
@[simp] theorem State.setReg_ctrl (w : Width) (r : Reg) (v : BitVec w.bits) : (s.setReg w r v).ctrl = s.ctrl := rfl
@[simp] theorem State.setReg_seq (w : Width) (r : Reg) (v : BitVec w.bits) : (s.setReg w r v).seq = s.seq := rfl
@[simp] theorem State.setReg_pins (w : Width) (r : Reg) (v : BitVec w.bits) : (s.setReg w r v).pins = s.pins := rfl
@[simp] theorem State.setReg_io (w : Width) (r : Reg) (v : BitVec w.bits) : (s.setReg w r v).io = s.io := rfl
@[simp] theorem State.setReg_draws (w : Width) (r : Reg) (v : BitVec w.bits) : (s.setReg w r v).draws = s.draws := rfl
@[simp] theorem State.setReg_mem (w : Width) (r : Reg) (v : BitVec w.bits) : (s.setReg w r v).mem = s.mem := rfl

@[simp] theorem State.setEReg_gpr (z : Size) (r : Reg) (v : BitVec 32) : (s.setEReg z r v).gpr = s.gpr.write z.width r (v.setWidth _) := rfl
@[simp] theorem State.setEReg_eip (z : Size) (r : Reg) (v : BitVec 32) : (s.setEReg z r v).eip = s.eip := rfl
@[simp] theorem State.setEReg_flags (z : Size) (r : Reg) (v : BitVec 32) : (s.setEReg z r v).flags = s.flags := rfl
@[simp] theorem State.setEReg_segs (z : Size) (r : Reg) (v : BitVec 32) : (s.setEReg z r v).segs = s.segs := rfl
@[simp] theorem State.setEReg_tables (z : Size) (r : Reg) (v : BitVec 32) : (s.setEReg z r v).tables = s.tables := rfl
@[simp] theorem State.setEReg_ctrl (z : Size) (r : Reg) (v : BitVec 32) : (s.setEReg z r v).ctrl = s.ctrl := rfl
@[simp] theorem State.setEReg_seq (z : Size) (r : Reg) (v : BitVec 32) : (s.setEReg z r v).seq = s.seq := rfl
@[simp] theorem State.setEReg_pins (z : Size) (r : Reg) (v : BitVec 32) : (s.setEReg z r v).pins = s.pins := rfl
@[simp] theorem State.setEReg_io (z : Size) (r : Reg) (v : BitVec 32) : (s.setEReg z r v).io = s.io := rfl
@[simp] theorem State.setEReg_draws (z : Size) (r : Reg) (v : BitVec 32) : (s.setEReg z r v).draws = s.draws := rfl
@[simp] theorem State.setEReg_mem (z : Size) (r : Reg) (v : BitVec 32) : (s.setEReg z r v).mem = s.mem := rfl

@[simp] theorem State.dropStack_eip (k : BitVec 32) : (s.dropStack k).eip = s.eip := rfl
@[simp] theorem State.dropStack_flags (k : BitVec 32) : (s.dropStack k).flags = s.flags := rfl
@[simp] theorem State.dropStack_segs (k : BitVec 32) : (s.dropStack k).segs = s.segs := rfl
@[simp] theorem State.dropStack_tables (k : BitVec 32) : (s.dropStack k).tables = s.tables := rfl
@[simp] theorem State.dropStack_ctrl (k : BitVec 32) : (s.dropStack k).ctrl = s.ctrl := rfl
@[simp] theorem State.dropStack_seq (k : BitVec 32) : (s.dropStack k).seq = s.seq := rfl
@[simp] theorem State.dropStack_pins (k : BitVec 32) : (s.dropStack k).pins = s.pins := rfl
@[simp] theorem State.dropStack_io (k : BitVec 32) : (s.dropStack k).io = s.io := rfl
@[simp] theorem State.dropStack_draws (k : BitVec 32) : (s.dropStack k).draws = s.draws := rfl
@[simp] theorem State.dropStack_mem (k : BitVec 32) : (s.dropStack k).mem = s.mem := rfl

@[simp] theorem State.setSeg_gpr (r : SReg) (g : SegReg) : (s.setSeg r g).gpr = s.gpr := rfl
@[simp] theorem State.setSeg_eip (r : SReg) (g : SegReg) : (s.setSeg r g).eip = s.eip := rfl
@[simp] theorem State.setSeg_flags (r : SReg) (g : SegReg) : (s.setSeg r g).flags = s.flags := rfl
@[simp] theorem State.setSeg_segs (r : SReg) (g : SegReg) : (s.setSeg r g).segs = s.segs.set r g := rfl
@[simp] theorem State.setSeg_tables (r : SReg) (g : SegReg) : (s.setSeg r g).tables = s.tables := rfl
@[simp] theorem State.setSeg_ctrl (r : SReg) (g : SegReg) : (s.setSeg r g).ctrl = s.ctrl := rfl
@[simp] theorem State.setSeg_seq (r : SReg) (g : SegReg) : (s.setSeg r g).seq = s.seq := rfl
@[simp] theorem State.setSeg_pins (r : SReg) (g : SegReg) : (s.setSeg r g).pins = s.pins := rfl
@[simp] theorem State.setSeg_io (r : SReg) (g : SegReg) : (s.setSeg r g).io = s.io := rfl
@[simp] theorem State.setSeg_draws (r : SReg) (g : SegReg) : (s.setSeg r g).draws = s.draws := rfl
@[simp] theorem State.setSeg_mem (r : SReg) (g : SegReg) : (s.setSeg r g).mem = s.mem := rfl

@[simp] theorem State.loadStack_eip (g : SegReg) (v : BitVec 32) : (s.loadStack g v).eip = s.eip := rfl
@[simp] theorem State.loadStack_flags (g : SegReg) (v : BitVec 32) : (s.loadStack g v).flags = s.flags := rfl
@[simp] theorem State.loadStack_segs (g : SegReg) (v : BitVec 32) : (s.loadStack g v).segs = s.segs.set .ss g := rfl
@[simp] theorem State.loadStack_tables (g : SegReg) (v : BitVec 32) : (s.loadStack g v).tables = s.tables := rfl
@[simp] theorem State.loadStack_ctrl (g : SegReg) (v : BitVec 32) : (s.loadStack g v).ctrl = s.ctrl := rfl
@[simp] theorem State.loadStack_seq (g : SegReg) (v : BitVec 32) : (s.loadStack g v).seq = s.seq := rfl
@[simp] theorem State.loadStack_pins (g : SegReg) (v : BitVec 32) : (s.loadStack g v).pins = s.pins := rfl
@[simp] theorem State.loadStack_io (g : SegReg) (v : BitVec 32) : (s.loadStack g v).io = s.io := rfl
@[simp] theorem State.loadStack_draws (g : SegReg) (v : BitVec 32) : (s.loadStack g v).draws = s.draws := rfl
@[simp] theorem State.loadStack_mem (g : SegReg) (v : BitVec 32) : (s.loadStack g v).mem = s.mem := rfl

@[simp] theorem State.dropInvalid_gpr : (s.dropInvalid).gpr = s.gpr := rfl
@[simp] theorem State.dropInvalid_eip : (s.dropInvalid).eip = s.eip := rfl
@[simp] theorem State.dropInvalid_flags : (s.dropInvalid).flags = s.flags := rfl
@[simp] theorem State.dropInvalid_tables : (s.dropInvalid).tables = s.tables := rfl
@[simp] theorem State.dropInvalid_ctrl : (s.dropInvalid).ctrl = s.ctrl := rfl
@[simp] theorem State.dropInvalid_seq : (s.dropInvalid).seq = s.seq := rfl
@[simp] theorem State.dropInvalid_pins : (s.dropInvalid).pins = s.pins := rfl
@[simp] theorem State.dropInvalid_io : (s.dropInvalid).io = s.io := rfl
@[simp] theorem State.dropInvalid_draws : (s.dropInvalid).draws = s.draws := rfl
@[simp] theorem State.dropInvalid_mem : (s.dropInvalid).mem = s.mem := rfl

/-! ### Updates of EIP and of the sequencing state -/

@[simp] theorem State.jumpTo_gpr (v : BitVec 32) : (s.jumpTo v).gpr = s.gpr := rfl
@[simp] theorem State.jumpTo_eip (v : BitVec 32) : (s.jumpTo v).eip = v := rfl
@[simp] theorem State.jumpTo_flags (v : BitVec 32) : (s.jumpTo v).flags = s.flags := rfl
@[simp] theorem State.jumpTo_segs (v : BitVec 32) : (s.jumpTo v).segs = s.segs := rfl
@[simp] theorem State.jumpTo_tables (v : BitVec 32) : (s.jumpTo v).tables = s.tables := rfl
@[simp] theorem State.jumpTo_ctrl (v : BitVec 32) : (s.jumpTo v).ctrl = s.ctrl := rfl
@[simp] theorem State.jumpTo_pins (v : BitVec 32) : (s.jumpTo v).pins = s.pins := rfl
@[simp] theorem State.jumpTo_io (v : BitVec 32) : (s.jumpTo v).io = s.io := rfl
@[simp] theorem State.jumpTo_draws (v : BitVec 32) : (s.jumpTo v).draws = s.draws := rfl
@[simp] theorem State.jumpTo_mem (v : BitVec 32) : (s.jumpTo v).mem = s.mem := rfl

@[simp] theorem State.jumpFar_gpr (g : SegReg) (v : BitVec 32) : (s.jumpFar g v).gpr = s.gpr := rfl
@[simp] theorem State.jumpFar_eip (g : SegReg) (v : BitVec 32) : (s.jumpFar g v).eip = v := rfl
@[simp] theorem State.jumpFar_flags (g : SegReg) (v : BitVec 32) : (s.jumpFar g v).flags = s.flags := rfl
@[simp] theorem State.jumpFar_segs (g : SegReg) (v : BitVec 32) : (s.jumpFar g v).segs = s.segs.set .cs g := rfl
@[simp] theorem State.jumpFar_tables (g : SegReg) (v : BitVec 32) : (s.jumpFar g v).tables = s.tables := rfl
@[simp] theorem State.jumpFar_ctrl (g : SegReg) (v : BitVec 32) : (s.jumpFar g v).ctrl = s.ctrl := rfl
@[simp] theorem State.jumpFar_pins (g : SegReg) (v : BitVec 32) : (s.jumpFar g v).pins = s.pins := rfl
@[simp] theorem State.jumpFar_io (g : SegReg) (v : BitVec 32) : (s.jumpFar g v).io = s.io := rfl
@[simp] theorem State.jumpFar_draws (g : SegReg) (v : BitVec 32) : (s.jumpFar g v).draws = s.draws := rfl
@[simp] theorem State.jumpFar_mem (g : SegReg) (v : BitVec 32) : (s.jumpFar g v).mem = s.mem := rfl

@[simp] theorem State.advance_gpr (n : Nat) : (s.advance n).gpr = s.gpr := rfl
@[simp] theorem State.advance_eip (n : Nat) : (s.advance n).eip = s.eip + BitVec.ofNat 32 n := rfl
@[simp] theorem State.advance_flags (n : Nat) : (s.advance n).flags = s.flags := rfl
@[simp] theorem State.advance_segs (n : Nat) : (s.advance n).segs = s.segs := rfl
@[simp] theorem State.advance_tables (n : Nat) : (s.advance n).tables = s.tables := rfl
@[simp] theorem State.advance_ctrl (n : Nat) : (s.advance n).ctrl = s.ctrl := rfl
@[simp] theorem State.advance_seq (n : Nat) : (s.advance n).seq = s.seq := rfl
@[simp] theorem State.advance_pins (n : Nat) : (s.advance n).pins = s.pins := rfl
@[simp] theorem State.advance_io (n : Nat) : (s.advance n).io = s.io := rfl
@[simp] theorem State.advance_draws (n : Nat) : (s.advance n).draws = s.draws := rfl
@[simp] theorem State.advance_mem (n : Nat) : (s.advance n).mem = s.mem := rfl

@[simp] theorem State.restart_gpr : (s.restart).gpr = s.gpr := rfl
@[simp] theorem State.restart_eip : (s.restart).eip = s.seq.startEip := rfl
@[simp] theorem State.restart_flags : (s.restart).flags = s.flags := rfl
@[simp] theorem State.restart_segs : (s.restart).segs = s.segs := rfl
@[simp] theorem State.restart_tables : (s.restart).tables = s.tables := rfl
@[simp] theorem State.restart_ctrl : (s.restart).ctrl = s.ctrl := rfl
@[simp] theorem State.restart_pins : (s.restart).pins = s.pins := rfl
@[simp] theorem State.restart_io : (s.restart).io = s.io := rfl
@[simp] theorem State.restart_draws : (s.restart).draws = s.draws := rfl
@[simp] theorem State.restart_mem : (s.restart).mem = s.mem := rfl

@[simp] theorem State.beginInstr_gpr : (s.beginInstr).gpr = s.gpr := rfl
@[simp] theorem State.beginInstr_eip : (s.beginInstr).eip = s.eip := rfl
@[simp] theorem State.beginInstr_flags : (s.beginInstr).flags = s.flags := rfl
@[simp] theorem State.beginInstr_segs : (s.beginInstr).segs = s.segs := rfl
@[simp] theorem State.beginInstr_tables : (s.beginInstr).tables = s.tables := rfl
@[simp] theorem State.beginInstr_ctrl : (s.beginInstr).ctrl = s.ctrl := rfl
@[simp] theorem State.beginInstr_pins : (s.beginInstr).pins = s.pins := rfl
@[simp] theorem State.beginInstr_io : (s.beginInstr).io = s.io := rfl
@[simp] theorem State.beginInstr_draws : (s.beginInstr).draws = s.draws := rfl
@[simp] theorem State.beginInstr_mem : (s.beginInstr).mem = s.mem := rfl

@[simp] theorem State.shutDown_gpr : (s.shutDown).gpr = s.gpr := rfl
@[simp] theorem State.shutDown_eip : (s.shutDown).eip = s.eip := rfl
@[simp] theorem State.shutDown_flags : (s.shutDown).flags = s.flags := rfl
@[simp] theorem State.shutDown_segs : (s.shutDown).segs = s.segs := rfl
@[simp] theorem State.shutDown_tables : (s.shutDown).tables = s.tables := rfl
@[simp] theorem State.shutDown_ctrl : (s.shutDown).ctrl = s.ctrl := rfl
@[simp] theorem State.shutDown_pins : (s.shutDown).pins = s.pins := rfl
@[simp] theorem State.shutDown_io : (s.shutDown).io = s.io := rfl
@[simp] theorem State.shutDown_draws : (s.shutDown).draws = s.draws := rfl
@[simp] theorem State.shutDown_mem : (s.shutDown).mem = s.mem := rfl

@[simp] theorem State.unblockNmi_gpr : (s.unblockNmi).gpr = s.gpr := rfl
@[simp] theorem State.unblockNmi_eip : (s.unblockNmi).eip = s.eip := rfl
@[simp] theorem State.unblockNmi_flags : (s.unblockNmi).flags = s.flags := rfl
@[simp] theorem State.unblockNmi_segs : (s.unblockNmi).segs = s.segs := rfl
@[simp] theorem State.unblockNmi_tables : (s.unblockNmi).tables = s.tables := rfl
@[simp] theorem State.unblockNmi_ctrl : (s.unblockNmi).ctrl = s.ctrl := rfl
@[simp] theorem State.unblockNmi_pins : (s.unblockNmi).pins = s.pins := rfl
@[simp] theorem State.unblockNmi_io : (s.unblockNmi).io = s.io := rfl
@[simp] theorem State.unblockNmi_draws : (s.unblockNmi).draws = s.draws := rfl
@[simp] theorem State.unblockNmi_mem : (s.unblockNmi).mem = s.mem := rfl

@[simp] theorem State.again_gpr : (s.again).gpr = s.gpr := rfl
@[simp] theorem State.again_eip : (s.again).eip = s.seq.startEip := rfl
@[simp] theorem State.again_flags : (s.again).flags = s.flags := rfl
@[simp] theorem State.again_segs : (s.again).segs = s.segs := rfl
@[simp] theorem State.again_tables : (s.again).tables = s.tables := rfl
@[simp] theorem State.again_ctrl : (s.again).ctrl = s.ctrl := rfl
@[simp] theorem State.again_pins : (s.again).pins = s.pins := rfl
@[simp] theorem State.again_io : (s.again).io = s.io := rfl
@[simp] theorem State.again_draws : (s.again).draws = s.draws := rfl
@[simp] theorem State.again_mem : (s.again).mem = s.mem := rfl

@[simp] theorem State.waitHere_gpr : (s.waitHere).gpr = s.gpr := rfl
@[simp] theorem State.waitHere_eip : (s.waitHere).eip = s.seq.startEip := rfl
@[simp] theorem State.waitHere_flags : (s.waitHere).flags = s.flags := rfl
@[simp] theorem State.waitHere_segs : (s.waitHere).segs = s.segs := rfl
@[simp] theorem State.waitHere_tables : (s.waitHere).tables = s.tables := rfl
@[simp] theorem State.waitHere_ctrl : (s.waitHere).ctrl = s.ctrl := rfl
@[simp] theorem State.waitHere_pins : (s.waitHere).pins = s.pins := rfl
@[simp] theorem State.waitHere_io : (s.waitHere).io = s.io := rfl
@[simp] theorem State.waitHere_draws : (s.waitHere).draws = s.draws := rfl
@[simp] theorem State.waitHere_mem : (s.waitHere).mem = s.mem := rfl

@[simp] theorem State.withPfx_gpr (p : Prefixes) : (s.withPfx p).gpr = s.gpr := rfl
@[simp] theorem State.withPfx_eip (p : Prefixes) : (s.withPfx p).eip = s.eip := rfl
@[simp] theorem State.withPfx_flags (p : Prefixes) : (s.withPfx p).flags = s.flags := rfl
@[simp] theorem State.withPfx_segs (p : Prefixes) : (s.withPfx p).segs = s.segs := rfl
@[simp] theorem State.withPfx_tables (p : Prefixes) : (s.withPfx p).tables = s.tables := rfl
@[simp] theorem State.withPfx_ctrl (p : Prefixes) : (s.withPfx p).ctrl = s.ctrl := rfl
@[simp] theorem State.withPfx_pins (p : Prefixes) : (s.withPfx p).pins = s.pins := rfl
@[simp] theorem State.withPfx_io (p : Prefixes) : (s.withPfx p).io = s.io := rfl
@[simp] theorem State.withPfx_draws (p : Prefixes) : (s.withPfx p).draws = s.draws := rfl
@[simp] theorem State.withPfx_mem (p : Prefixes) : (s.withPfx p).mem = s.mem := rfl

@[simp] theorem State.inhibitAfterSs_gpr (r : SReg) : (s.inhibitAfterSs r).gpr = s.gpr := by unfold State.inhibitAfterSs; split <;> rfl
@[simp] theorem State.inhibitAfterSs_eip (r : SReg) : (s.inhibitAfterSs r).eip = s.eip := by unfold State.inhibitAfterSs; split <;> rfl
@[simp] theorem State.inhibitAfterSs_flags (r : SReg) : (s.inhibitAfterSs r).flags = s.flags := by unfold State.inhibitAfterSs; split <;> rfl
@[simp] theorem State.inhibitAfterSs_segs (r : SReg) : (s.inhibitAfterSs r).segs = s.segs := by unfold State.inhibitAfterSs; split <;> rfl
@[simp] theorem State.inhibitAfterSs_tables (r : SReg) : (s.inhibitAfterSs r).tables = s.tables := by unfold State.inhibitAfterSs; split <;> rfl
@[simp] theorem State.inhibitAfterSs_ctrl (r : SReg) : (s.inhibitAfterSs r).ctrl = s.ctrl := by unfold State.inhibitAfterSs; split <;> rfl
@[simp] theorem State.inhibitAfterSs_pins (r : SReg) : (s.inhibitAfterSs r).pins = s.pins := by unfold State.inhibitAfterSs; split <;> rfl
@[simp] theorem State.inhibitAfterSs_io (r : SReg) : (s.inhibitAfterSs r).io = s.io := by unfold State.inhibitAfterSs; split <;> rfl
@[simp] theorem State.inhibitAfterSs_draws (r : SReg) : (s.inhibitAfterSs r).draws = s.draws := by unfold State.inhibitAfterSs; split <;> rfl
@[simp] theorem State.inhibitAfterSs_mem (r : SReg) : (s.inhibitAfterSs r).mem = s.mem := by unfold State.inhibitAfterSs; split <;> rfl

/-! ### Updates of the flags and of the control registers -/

@[simp] theorem State.undefineFlags_gpr (l : List StatusFlag) : (s.undefineFlags l).gpr = s.gpr := rfl
@[simp] theorem State.undefineFlags_eip (l : List StatusFlag) : (s.undefineFlags l).eip = s.eip := rfl
@[simp] theorem State.undefineFlags_segs (l : List StatusFlag) : (s.undefineFlags l).segs = s.segs := rfl
@[simp] theorem State.undefineFlags_tables (l : List StatusFlag) : (s.undefineFlags l).tables = s.tables := rfl
@[simp] theorem State.undefineFlags_ctrl (l : List StatusFlag) : (s.undefineFlags l).ctrl = s.ctrl := rfl
@[simp] theorem State.undefineFlags_seq (l : List StatusFlag) : (s.undefineFlags l).seq = s.seq := rfl
@[simp] theorem State.undefineFlags_pins (l : List StatusFlag) : (s.undefineFlags l).pins = s.pins := rfl
@[simp] theorem State.undefineFlags_io (l : List StatusFlag) : (s.undefineFlags l).io = s.io := rfl
@[simp] theorem State.undefineFlags_draws (l : List StatusFlag) : (s.undefineFlags l).draws = s.draws + 1 := rfl
@[simp] theorem State.undefineFlags_mem (l : List StatusFlag) : (s.undefineFlags l).mem = s.mem := rfl

@[simp] theorem State.draw_gpr : (s.draw.2).gpr = s.gpr := rfl
@[simp] theorem State.draw_eip : (s.draw.2).eip = s.eip := rfl
@[simp] theorem State.draw_flags : (s.draw.2).flags = s.flags := rfl
@[simp] theorem State.draw_segs : (s.draw.2).segs = s.segs := rfl
@[simp] theorem State.draw_tables : (s.draw.2).tables = s.tables := rfl
@[simp] theorem State.draw_ctrl : (s.draw.2).ctrl = s.ctrl := rfl
@[simp] theorem State.draw_seq : (s.draw.2).seq = s.seq := rfl
@[simp] theorem State.draw_pins : (s.draw.2).pins = s.pins := rfl
@[simp] theorem State.draw_io : (s.draw.2).io = s.io := rfl
@[simp] theorem State.draw_draws : (s.draw.2).draws = s.draws + 1 := rfl
@[simp] theorem State.draw_mem : (s.draw.2).mem = s.mem := rfl

@[simp] theorem State.withZf_gpr (z : Bool) : (s.withZf z).gpr = s.gpr := rfl
@[simp] theorem State.withZf_eip (z : Bool) : (s.withZf z).eip = s.eip := rfl
@[simp] theorem State.withZf_flags (z : Bool) : (s.withZf z).flags = { s.flags with zf := z } := rfl
@[simp] theorem State.withZf_segs (z : Bool) : (s.withZf z).segs = s.segs := rfl
@[simp] theorem State.withZf_tables (z : Bool) : (s.withZf z).tables = s.tables := rfl
@[simp] theorem State.withZf_ctrl (z : Bool) : (s.withZf z).ctrl = s.ctrl := rfl
@[simp] theorem State.withZf_seq (z : Bool) : (s.withZf z).seq = s.seq := rfl
@[simp] theorem State.withZf_pins (z : Bool) : (s.withZf z).pins = s.pins := rfl
@[simp] theorem State.withZf_io (z : Bool) : (s.withZf z).io = s.io := rfl
@[simp] theorem State.withZf_draws (z : Bool) : (s.withZf z).draws = s.draws := rfl
@[simp] theorem State.withZf_mem (z : Bool) : (s.withZf z).mem = s.mem := rfl

@[simp] theorem State.logicFlags_gpr {n : Nat} (r : BitVec n) : (s.logicFlags r).gpr = s.gpr := rfl
@[simp] theorem State.logicFlags_eip {n : Nat} (r : BitVec n) : (s.logicFlags r).eip = s.eip := rfl
@[simp] theorem State.logicFlags_segs {n : Nat} (r : BitVec n) : (s.logicFlags r).segs = s.segs := rfl
@[simp] theorem State.logicFlags_tables {n : Nat} (r : BitVec n) : (s.logicFlags r).tables = s.tables := rfl
@[simp] theorem State.logicFlags_ctrl {n : Nat} (r : BitVec n) : (s.logicFlags r).ctrl = s.ctrl := rfl
@[simp] theorem State.logicFlags_seq {n : Nat} (r : BitVec n) : (s.logicFlags r).seq = s.seq := rfl
@[simp] theorem State.logicFlags_pins {n : Nat} (r : BitVec n) : (s.logicFlags r).pins = s.pins := rfl
@[simp] theorem State.logicFlags_io {n : Nat} (r : BitVec n) : (s.logicFlags r).io = s.io := rfl
@[simp] theorem State.logicFlags_mem {n : Nat} (r : BitVec n) : (s.logicFlags r).mem = s.mem := rfl

@[simp] theorem State.bitFlags_gpr (b : Bool) : (s.bitFlags b).gpr = s.gpr := rfl
@[simp] theorem State.bitFlags_eip (b : Bool) : (s.bitFlags b).eip = s.eip := rfl
@[simp] theorem State.bitFlags_segs (b : Bool) : (s.bitFlags b).segs = s.segs := rfl
@[simp] theorem State.bitFlags_tables (b : Bool) : (s.bitFlags b).tables = s.tables := rfl
@[simp] theorem State.bitFlags_ctrl (b : Bool) : (s.bitFlags b).ctrl = s.ctrl := rfl
@[simp] theorem State.bitFlags_seq (b : Bool) : (s.bitFlags b).seq = s.seq := rfl
@[simp] theorem State.bitFlags_pins (b : Bool) : (s.bitFlags b).pins = s.pins := rfl
@[simp] theorem State.bitFlags_io (b : Bool) : (s.bitFlags b).io = s.io := rfl
@[simp] theorem State.bitFlags_mem (b : Bool) : (s.bitFlags b).mem = s.mem := rfl

@[simp] theorem State.scanFlags_gpr (b : Bool) : (s.scanFlags b).gpr = s.gpr := rfl
@[simp] theorem State.scanFlags_eip (b : Bool) : (s.scanFlags b).eip = s.eip := rfl
@[simp] theorem State.scanFlags_segs (b : Bool) : (s.scanFlags b).segs = s.segs := rfl
@[simp] theorem State.scanFlags_tables (b : Bool) : (s.scanFlags b).tables = s.tables := rfl
@[simp] theorem State.scanFlags_ctrl (b : Bool) : (s.scanFlags b).ctrl = s.ctrl := rfl
@[simp] theorem State.scanFlags_seq (b : Bool) : (s.scanFlags b).seq = s.seq := rfl
@[simp] theorem State.scanFlags_pins (b : Bool) : (s.scanFlags b).pins = s.pins := rfl
@[simp] theorem State.scanFlags_io (b : Bool) : (s.scanFlags b).io = s.io := rfl
@[simp] theorem State.scanFlags_mem (b : Bool) : (s.scanFlags b).mem = s.mem := rfl

@[simp] theorem State.mulFlags_gpr (b : Bool) : (s.mulFlags b).gpr = s.gpr := rfl
@[simp] theorem State.mulFlags_eip (b : Bool) : (s.mulFlags b).eip = s.eip := rfl
@[simp] theorem State.mulFlags_segs (b : Bool) : (s.mulFlags b).segs = s.segs := rfl
@[simp] theorem State.mulFlags_tables (b : Bool) : (s.mulFlags b).tables = s.tables := rfl
@[simp] theorem State.mulFlags_ctrl (b : Bool) : (s.mulFlags b).ctrl = s.ctrl := rfl
@[simp] theorem State.mulFlags_seq (b : Bool) : (s.mulFlags b).seq = s.seq := rfl
@[simp] theorem State.mulFlags_pins (b : Bool) : (s.mulFlags b).pins = s.pins := rfl
@[simp] theorem State.mulFlags_io (b : Bool) : (s.mulFlags b).io = s.io := rfl
@[simp] theorem State.mulFlags_mem (b : Bool) : (s.mulFlags b).mem = s.mem := rfl

@[simp] theorem State.doubleFlags_gpr {n : Nat} (r : BitVec n) (c : Bool) : (s.doubleFlags r c).gpr = s.gpr := rfl
@[simp] theorem State.doubleFlags_eip {n : Nat} (r : BitVec n) (c : Bool) : (s.doubleFlags r c).eip = s.eip := rfl
@[simp] theorem State.doubleFlags_segs {n : Nat} (r : BitVec n) (c : Bool) : (s.doubleFlags r c).segs = s.segs := rfl
@[simp] theorem State.doubleFlags_tables {n : Nat} (r : BitVec n) (c : Bool) : (s.doubleFlags r c).tables = s.tables := rfl
@[simp] theorem State.doubleFlags_ctrl {n : Nat} (r : BitVec n) (c : Bool) : (s.doubleFlags r c).ctrl = s.ctrl := rfl
@[simp] theorem State.doubleFlags_seq {n : Nat} (r : BitVec n) (c : Bool) : (s.doubleFlags r c).seq = s.seq := rfl
@[simp] theorem State.doubleFlags_pins {n : Nat} (r : BitVec n) (c : Bool) : (s.doubleFlags r c).pins = s.pins := rfl
@[simp] theorem State.doubleFlags_io {n : Nat} (r : BitVec n) (c : Bool) : (s.doubleFlags r c).io = s.io := rfl
@[simp] theorem State.doubleFlags_mem {n : Nat} (r : BitVec n) (c : Bool) : (s.doubleFlags r c).mem = s.mem := rfl

@[simp] theorem State.aluFlags_gpr {n : Nat} (op : AluOp) (a b : BitVec n) : (s.aluFlags op a b).gpr = s.gpr := by cases op <;> rfl
@[simp] theorem State.aluFlags_eip {n : Nat} (op : AluOp) (a b : BitVec n) : (s.aluFlags op a b).eip = s.eip := by cases op <;> rfl
@[simp] theorem State.aluFlags_segs {n : Nat} (op : AluOp) (a b : BitVec n) : (s.aluFlags op a b).segs = s.segs := by cases op <;> rfl
@[simp] theorem State.aluFlags_tables {n : Nat} (op : AluOp) (a b : BitVec n) : (s.aluFlags op a b).tables = s.tables := by cases op <;> rfl
@[simp] theorem State.aluFlags_ctrl {n : Nat} (op : AluOp) (a b : BitVec n) : (s.aluFlags op a b).ctrl = s.ctrl := by cases op <;> rfl
@[simp] theorem State.aluFlags_seq {n : Nat} (op : AluOp) (a b : BitVec n) : (s.aluFlags op a b).seq = s.seq := by cases op <;> rfl
@[simp] theorem State.aluFlags_pins {n : Nat} (op : AluOp) (a b : BitVec n) : (s.aluFlags op a b).pins = s.pins := by cases op <;> rfl
@[simp] theorem State.aluFlags_io {n : Nat} (op : AluOp) (a b : BitVec n) : (s.aluFlags op a b).io = s.io := by cases op <;> rfl
@[simp] theorem State.aluFlags_mem {n : Nat} (op : AluOp) (a b : BitVec n) : (s.aluFlags op a b).mem = s.mem := by cases op <;> rfl

@[simp] theorem State.shiftFlags_gpr {n : Nat} (op : ShiftOp) (k : Nat) (a r : BitVec n) (c : Bool) : (s.shiftFlags op k a r c).gpr = s.gpr := by cases op <;> by_cases hk : k = 1 <;> simp [State.shiftFlags, ShiftOp.isShift, hk]
@[simp] theorem State.shiftFlags_eip {n : Nat} (op : ShiftOp) (k : Nat) (a r : BitVec n) (c : Bool) : (s.shiftFlags op k a r c).eip = s.eip := by cases op <;> by_cases hk : k = 1 <;> simp [State.shiftFlags, ShiftOp.isShift, hk]
@[simp] theorem State.shiftFlags_segs {n : Nat} (op : ShiftOp) (k : Nat) (a r : BitVec n) (c : Bool) : (s.shiftFlags op k a r c).segs = s.segs := by cases op <;> by_cases hk : k = 1 <;> simp [State.shiftFlags, ShiftOp.isShift, hk]
@[simp] theorem State.shiftFlags_tables {n : Nat} (op : ShiftOp) (k : Nat) (a r : BitVec n) (c : Bool) : (s.shiftFlags op k a r c).tables = s.tables := by cases op <;> by_cases hk : k = 1 <;> simp [State.shiftFlags, ShiftOp.isShift, hk]
@[simp] theorem State.shiftFlags_ctrl {n : Nat} (op : ShiftOp) (k : Nat) (a r : BitVec n) (c : Bool) : (s.shiftFlags op k a r c).ctrl = s.ctrl := by cases op <;> by_cases hk : k = 1 <;> simp [State.shiftFlags, ShiftOp.isShift, hk]
@[simp] theorem State.shiftFlags_seq {n : Nat} (op : ShiftOp) (k : Nat) (a r : BitVec n) (c : Bool) : (s.shiftFlags op k a r c).seq = s.seq := by cases op <;> by_cases hk : k = 1 <;> simp [State.shiftFlags, ShiftOp.isShift, hk]
@[simp] theorem State.shiftFlags_pins {n : Nat} (op : ShiftOp) (k : Nat) (a r : BitVec n) (c : Bool) : (s.shiftFlags op k a r c).pins = s.pins := by cases op <;> by_cases hk : k = 1 <;> simp [State.shiftFlags, ShiftOp.isShift, hk]
@[simp] theorem State.shiftFlags_io {n : Nat} (op : ShiftOp) (k : Nat) (a r : BitVec n) (c : Bool) : (s.shiftFlags op k a r c).io = s.io := by cases op <;> by_cases hk : k = 1 <;> simp [State.shiftFlags, ShiftOp.isShift, hk]
@[simp] theorem State.shiftFlags_mem {n : Nat} (op : ShiftOp) (k : Nat) (a r : BitVec n) (c : Bool) : (s.shiftFlags op k a r c).mem = s.mem := by cases op <;> by_cases hk : k = 1 <;> simp [State.shiftFlags, ShiftOp.isShift, hk]

@[simp] theorem State.setCr0_gpr (c : Cr0) : (s.setCr0 c).gpr = s.gpr := rfl
@[simp] theorem State.setCr0_eip (c : Cr0) : (s.setCr0 c).eip = s.eip := rfl
@[simp] theorem State.setCr0_flags (c : Cr0) : (s.setCr0 c).flags = s.flags := rfl
@[simp] theorem State.setCr0_segs (c : Cr0) : (s.setCr0 c).segs = s.segs := rfl
@[simp] theorem State.setCr0_tables (c : Cr0) : (s.setCr0 c).tables = s.tables := rfl
@[simp] theorem State.setCr0_ctrl (c : Cr0) : (s.setCr0 c).ctrl = { s.ctrl with cr0 := c } := rfl
@[simp] theorem State.setCr0_pins (c : Cr0) : (s.setCr0 c).pins = s.pins := rfl
@[simp] theorem State.setCr0_io (c : Cr0) : (s.setCr0 c).io = s.io := rfl
@[simp] theorem State.setCr0_draws (c : Cr0) : (s.setCr0 c).draws = s.draws := rfl
@[simp] theorem State.setCr0_mem (c : Cr0) : (s.setCr0 c).mem = s.mem := rfl

@[simp] theorem State.loadCr2_gpr (x : Exc) : (s.loadCr2 x).gpr = s.gpr := by unfold State.loadCr2; split <;> rfl
@[simp] theorem State.loadCr2_eip (x : Exc) : (s.loadCr2 x).eip = s.eip := by unfold State.loadCr2; split <;> rfl
@[simp] theorem State.loadCr2_flags (x : Exc) : (s.loadCr2 x).flags = s.flags := by unfold State.loadCr2; split <;> rfl
@[simp] theorem State.loadCr2_segs (x : Exc) : (s.loadCr2 x).segs = s.segs := by unfold State.loadCr2; split <;> rfl
@[simp] theorem State.loadCr2_tables (x : Exc) : (s.loadCr2 x).tables = s.tables := by unfold State.loadCr2; split <;> rfl
@[simp] theorem State.loadCr2_seq (x : Exc) : (s.loadCr2 x).seq = s.seq := by unfold State.loadCr2; split <;> rfl
@[simp] theorem State.loadCr2_pins (x : Exc) : (s.loadCr2 x).pins = s.pins := by unfold State.loadCr2; split <;> rfl
@[simp] theorem State.loadCr2_io (x : Exc) : (s.loadCr2 x).io = s.io := by unfold State.loadCr2; split <;> rfl
@[simp] theorem State.loadCr2_draws (x : Exc) : (s.loadCr2 x).draws = s.draws := by unfold State.loadCr2; split <;> rfl
@[simp] theorem State.loadCr2_mem (x : Exc) : (s.loadCr2 x).mem = s.mem := by unfold State.loadCr2; split <;> rfl

@[simp] theorem State.setProduct_eip (w : Width) (p : Nat) : (s.setProduct w p).eip = s.eip := by cases w <;> rfl
@[simp] theorem State.setProduct_flags (w : Width) (p : Nat) : (s.setProduct w p).flags = s.flags := by cases w <;> rfl
@[simp] theorem State.setProduct_segs (w : Width) (p : Nat) : (s.setProduct w p).segs = s.segs := by cases w <;> rfl
@[simp] theorem State.setProduct_tables (w : Width) (p : Nat) : (s.setProduct w p).tables = s.tables := by cases w <;> rfl
@[simp] theorem State.setProduct_ctrl (w : Width) (p : Nat) : (s.setProduct w p).ctrl = s.ctrl := by cases w <;> rfl
@[simp] theorem State.setProduct_seq (w : Width) (p : Nat) : (s.setProduct w p).seq = s.seq := by cases w <;> rfl
@[simp] theorem State.setProduct_pins (w : Width) (p : Nat) : (s.setProduct w p).pins = s.pins := by cases w <;> rfl
@[simp] theorem State.setProduct_io (w : Width) (p : Nat) : (s.setProduct w p).io = s.io := by cases w <;> rfl
@[simp] theorem State.setProduct_draws (w : Width) (p : Nat) : (s.setProduct w p).draws = s.draws := by cases w <;> rfl
@[simp] theorem State.setProduct_mem (w : Width) (p : Nat) : (s.setProduct w p).mem = s.mem := by cases w <;> rfl

@[simp] theorem State.setQuotRem_eip (w : Width) (q r : BitVec w.bits) : (s.setQuotRem w q r).eip = s.eip := by cases w <;> rfl
@[simp] theorem State.setQuotRem_flags (w : Width) (q r : BitVec w.bits) : (s.setQuotRem w q r).flags = s.flags := by cases w <;> rfl
@[simp] theorem State.setQuotRem_segs (w : Width) (q r : BitVec w.bits) : (s.setQuotRem w q r).segs = s.segs := by cases w <;> rfl
@[simp] theorem State.setQuotRem_tables (w : Width) (q r : BitVec w.bits) : (s.setQuotRem w q r).tables = s.tables := by cases w <;> rfl
@[simp] theorem State.setQuotRem_ctrl (w : Width) (q r : BitVec w.bits) : (s.setQuotRem w q r).ctrl = s.ctrl := by cases w <;> rfl
@[simp] theorem State.setQuotRem_seq (w : Width) (q r : BitVec w.bits) : (s.setQuotRem w q r).seq = s.seq := by cases w <;> rfl
@[simp] theorem State.setQuotRem_pins (w : Width) (q r : BitVec w.bits) : (s.setQuotRem w q r).pins = s.pins := by cases w <;> rfl
@[simp] theorem State.setQuotRem_io (w : Width) (q r : BitVec w.bits) : (s.setQuotRem w q r).io = s.io := by cases w <;> rfl
@[simp] theorem State.setQuotRem_draws (w : Width) (q r : BitVec w.bits) : (s.setQuotRem w q r).draws = s.draws := by cases w <;> rfl
@[simp] theorem State.setQuotRem_mem (w : Width) (q r : BitVec w.bits) : (s.setQuotRem w q r).mem = s.mem := by cases w <;> rfl

/-! ### Stores noted for fetch -/

@[simp] theorem State.noteStore_gpr (a : BitVec 32) : (s.noteStore a).gpr = s.gpr := by unfold State.noteStore; split <;> rfl
@[simp] theorem State.noteStore_eip (a : BitVec 32) : (s.noteStore a).eip = s.eip := by unfold State.noteStore; split <;> rfl
@[simp] theorem State.noteStore_flags (a : BitVec 32) : (s.noteStore a).flags = s.flags := by unfold State.noteStore; split <;> rfl
@[simp] theorem State.noteStore_segs (a : BitVec 32) : (s.noteStore a).segs = s.segs := by unfold State.noteStore; split <;> rfl
@[simp] theorem State.noteStore_tables (a : BitVec 32) : (s.noteStore a).tables = s.tables := by unfold State.noteStore; split <;> rfl
@[simp] theorem State.noteStore_ctrl (a : BitVec 32) : (s.noteStore a).ctrl = s.ctrl := by unfold State.noteStore; split <;> rfl
@[simp] theorem State.noteStore_pins (a : BitVec 32) : (s.noteStore a).pins = s.pins := by unfold State.noteStore; split <;> rfl
@[simp] theorem State.noteStore_io (a : BitVec 32) : (s.noteStore a).io = s.io := by unfold State.noteStore; split <;> rfl
@[simp] theorem State.noteStore_draws (a : BitVec 32) : (s.noteStore a).draws = s.draws := by unfold State.noteStore; split <;> rfl
@[simp] theorem State.noteStore_mem (a : BitVec 32) : (s.noteStore a).mem = s.mem := by unfold State.noteStore; split <;> rfl

@[simp] theorem State.noteStores_gpr (n : Nat) (a : BitVec 32) : (s.noteStores n a).gpr = s.gpr := by
  induction n generalizing s a with
  | zero => rfl
  | succ n ih => simp [State.noteStores, ih]

@[simp] theorem State.noteStores_eip (n : Nat) (a : BitVec 32) : (s.noteStores n a).eip = s.eip := by
  induction n generalizing s a with
  | zero => rfl
  | succ n ih => simp [State.noteStores, ih]

@[simp] theorem State.noteStores_flags (n : Nat) (a : BitVec 32) : (s.noteStores n a).flags = s.flags := by
  induction n generalizing s a with
  | zero => rfl
  | succ n ih => simp [State.noteStores, ih]

@[simp] theorem State.noteStores_segs (n : Nat) (a : BitVec 32) : (s.noteStores n a).segs = s.segs := by
  induction n generalizing s a with
  | zero => rfl
  | succ n ih => simp [State.noteStores, ih]

@[simp] theorem State.noteStores_tables (n : Nat) (a : BitVec 32) : (s.noteStores n a).tables = s.tables := by
  induction n generalizing s a with
  | zero => rfl
  | succ n ih => simp [State.noteStores, ih]

@[simp] theorem State.noteStores_ctrl (n : Nat) (a : BitVec 32) : (s.noteStores n a).ctrl = s.ctrl := by
  induction n generalizing s a with
  | zero => rfl
  | succ n ih => simp [State.noteStores, ih]

@[simp] theorem State.noteStores_pins (n : Nat) (a : BitVec 32) : (s.noteStores n a).pins = s.pins := by
  induction n generalizing s a with
  | zero => rfl
  | succ n ih => simp [State.noteStores, ih]

@[simp] theorem State.noteStores_io (n : Nat) (a : BitVec 32) : (s.noteStores n a).io = s.io := by
  induction n generalizing s a with
  | zero => rfl
  | succ n ih => simp [State.noteStores, ih]

@[simp] theorem State.noteStores_draws (n : Nat) (a : BitVec 32) : (s.noteStores n a).draws = s.draws := by
  induction n generalizing s a with
  | zero => rfl
  | succ n ih => simp [State.noteStores, ih]

@[simp] theorem State.noteStores_mem (n : Nat) (a : BitVec 32) : (s.noteStores n a).mem = s.mem := by
  induction n generalizing s a with
  | zero => rfl
  | succ n ih => simp [State.noteStores, ih]

/-- A store changes no other part of the sequencing state. -/
@[simp] theorem State.noteStore_seq (a : BitVec 32) :
    { (s.noteStore a).seq with stale := s.seq.stale } = s.seq := by
  unfold State.noteStore; split <;> rfl

theorem State.noteStores_seq (n : Nat) (a : BitVec 32) :
    { (s.noteStores n a).seq with stale := s.seq.stale } = s.seq := by
  induction n generalizing s a with
  | zero => rfl
  | succ n ih =>
    have h1 := ih (s.noteStore a) (a + 1)
    have h2 := s.noteStore_seq a
    rw [State.noteStores]
    calc { ((s.noteStore a).noteStores n (a + 1)).seq with stale := s.seq.stale }
        = { ({ ((s.noteStore a).noteStores n (a + 1)).seq with stale := (s.noteStore a).seq.stale } : Seq) with
            stale := s.seq.stale } := rfl
      _ = s.seq := by rw [h1, h2]

/-! ### The flags that free values reach -/

@[simp] theorem Flags.setFrom_nil (f : Flags) (v : BitVec 32) : f.setFrom v [] = f := rfl

theorem Flags.setFrom_cons (f : Flags) (v : BitVec 32) (x : StatusFlag) (l : List StatusFlag) :
    f.setFrom v (x :: l) = (f.set x (v.getLsbD x.bit)).setFrom v l := rfl

@[simp] theorem Flags.set_tf (f : Flags) (x : StatusFlag) (b : Bool) : (f.set x b).tf = f.tf := by cases x <;> rfl

@[simp] theorem Flags.setFrom_tf (f : Flags) (v : BitVec 32) (l : List StatusFlag) :
    (f.setFrom v l).tf = f.tf := by
  induction l generalizing f with
  | nil => rfl
  | cons x l ih => rw [Flags.setFrom_cons, ih, Flags.set_tf]

@[simp] theorem Flags.set_intf (f : Flags) (x : StatusFlag) (b : Bool) : (f.set x b).intf = f.intf := by cases x <;> rfl

@[simp] theorem Flags.setFrom_intf (f : Flags) (v : BitVec 32) (l : List StatusFlag) :
    (f.setFrom v l).intf = f.intf := by
  induction l generalizing f with
  | nil => rfl
  | cons x l ih => rw [Flags.setFrom_cons, ih, Flags.set_intf]

@[simp] theorem Flags.set_df (f : Flags) (x : StatusFlag) (b : Bool) : (f.set x b).df = f.df := by cases x <;> rfl

@[simp] theorem Flags.setFrom_df (f : Flags) (v : BitVec 32) (l : List StatusFlag) :
    (f.setFrom v l).df = f.df := by
  induction l generalizing f with
  | nil => rfl
  | cons x l ih => rw [Flags.setFrom_cons, ih, Flags.set_df]

@[simp] theorem Flags.set_iopl (f : Flags) (x : StatusFlag) (b : Bool) : (f.set x b).iopl = f.iopl := by cases x <;> rfl

@[simp] theorem Flags.setFrom_iopl (f : Flags) (v : BitVec 32) (l : List StatusFlag) :
    (f.setFrom v l).iopl = f.iopl := by
  induction l generalizing f with
  | nil => rfl
  | cons x l ih => rw [Flags.setFrom_cons, ih, Flags.set_iopl]

@[simp] theorem Flags.set_nt (f : Flags) (x : StatusFlag) (b : Bool) : (f.set x b).nt = f.nt := by cases x <;> rfl

@[simp] theorem Flags.setFrom_nt (f : Flags) (v : BitVec 32) (l : List StatusFlag) :
    (f.setFrom v l).nt = f.nt := by
  induction l generalizing f with
  | nil => rfl
  | cons x l ih => rw [Flags.setFrom_cons, ih, Flags.set_nt]

@[simp] theorem Flags.set_rf (f : Flags) (x : StatusFlag) (b : Bool) : (f.set x b).rf = f.rf := by cases x <;> rfl

@[simp] theorem Flags.setFrom_rf (f : Flags) (v : BitVec 32) (l : List StatusFlag) :
    (f.setFrom v l).rf = f.rf := by
  induction l generalizing f with
  | nil => rfl
  | cons x l ih => rw [Flags.setFrom_cons, ih, Flags.set_rf]

@[simp] theorem Flags.set_vm (f : Flags) (x : StatusFlag) (b : Bool) : (f.set x b).vm = f.vm := by cases x <;> rfl

@[simp] theorem Flags.setFrom_vm (f : Flags) (v : BitVec 32) (l : List StatusFlag) :
    (f.setFrom v l).vm = f.vm := by
  induction l generalizing f with
  | nil => rfl
  | cons x l ih => rw [Flags.setFrom_cons, ih, Flags.set_vm]

end Sys2Proof.Machine
end

