-- ==== Sys2Proof/Laws/Access.lean ====
section
/-! SUPPORT. Laws/Access.lean: what reading and writing memory and operands can do. -/

namespace Sys2Proof.Machine

/-- Two states agree on all that an access to memory depends on. -/
def SameView (s u : State) : Prop :=
  u.gpr = s.gpr ∧ u.segs = s.segs ∧ u.ctrl = s.ctrl ∧ u.seq.pfx = s.seq.pfx ∧ u.flags.vm = s.flags.vm ∧ u.mem = s.mem

theorem State.realMode_congr {s u : State} (hc : u.ctrl = s.ctrl) : u.realMode = s.realMode := by
  simp [State.realMode, hc]

theorem State.cpl_congr {s u : State} (hs : u.segs = s.segs) (hc : u.ctrl = s.ctrl) (hv : u.flags.vm = s.flags.vm) :
    u.cpl = s.cpl := by
  simp [State.cpl, State.realMode, State.v86Mode, hs, hc, hv]

theorem State.user_congr {s u : State} (hs : u.segs = s.segs) (hc : u.ctrl = s.ctrl) (hv : u.flags.vm = s.flags.vm) :
    u.user = s.user := by
  simp [State.user, State.cpl_congr hs hc hv]

theorem State.accessOk_congr {s u : State} (hs : u.segs = s.segs) (hc : u.ctrl = s.ctrl)
    (hv : u.flags.vm = s.flags.vm) (r : SReg) (off : BitVec 32) (n : Nat) (b : Bool) :
    u.accessOk r off n b = s.accessOk r off n b := by
  simp [State.accessOk, State.seg, State.protectedMode, hs, hc, hv]

theorem State.physAddr_congr {s u : State} (hc : u.ctrl = s.ctrl) (hm : u.mem = s.mem) (acc : Config.Access) (b : Bool)
    (lin : BitVec 32) : u.physAddr acc b lin = s.physAddr acc b lin := by
  simp [State.physAddr, hc, hm]

theorem State.physAddrs_congr {s u : State} (hc : u.ctrl = s.ctrl) (hm : u.mem = s.mem) (acc : Config.Access) (b : Bool)
    (n : Nat) (lin : BitVec 32) : u.physAddrs acc b n lin = s.physAddrs acc b n lin := by
  induction n generalizing lin with
  | zero => rfl
  | succ n ih => simp [State.physAddrs, State.physAddr_congr hc hm, ih]

theorem State.linear_congr {s u : State} (hs : u.segs = s.segs) (r : SReg) (off : BitVec 32) :
    u.linear r off = s.linear r off := by simp [State.linear, State.seg, hs]

/-- Translation gives one physical address for each byte. -/
theorem State.physAddrs_length {s : State} {acc : Config.Access} {b : Bool} {n : Nat} {lin : BitVec 32} {ps : List Nat}
    (h : s.physAddrs acc b n lin = .ok ps) : ps.length = n := by
  induction n generalizing lin ps with
  | zero => simp [State.physAddrs] at h; simp [← h]
  | succ n ih =>
    simp only [State.physAddrs] at h
    split at h
    · cases h
    · split at h
      · cases h
      · next h2 => cases h; simp [ih h2]

/-- All that a store of bytes at a linear address can do. -/
theorem State.linWriteBytes_ok {s t : State} {b : Bool} {lin : BitVec 32} {bs : List Byte}
    (h : s.linWriteBytes b lin bs = .ok t) :
    ∃ ps, s.physAddrs .write b bs.length lin = .ok ps ∧
      t = { s.noteStores bs.length lin with mem := memSetBytes s.mem ps bs } := by
  unfold State.linWriteBytes at h
  split at h
  · cases h
  · next ps hp => exact ⟨ps, hp, by cases h; rfl⟩

/-- All that a store through a segment register can do. -/
theorem State.memWrite_ok {s t : State} {r : SReg} {w : Width} {off : BitVec 32} {v : BitVec w.bits}
    (h : s.memWrite r w off v = .ok t) :
    s.accessOk r off w.bytes true = true ∧ ∃ ps, s.physAddrs .write s.user w.bytes (s.linear r off) = .ok ps ∧
      t = { s.noteStores w.bytes (s.linear r off) with mem := memSetBytes s.mem ps (leBytes w.bytes v.toNat) } := by
  unfold State.memWrite at h
  split at h
  · next ha =>
    obtain ⟨ps, hp, ht⟩ := State.linWriteBytes_ok h
    simp only [leBytes_length] at hp ht
    exact ⟨ha, ps, hp, ht⟩
  · cases h

/-- A store whose checks pass takes place. -/
theorem State.memWrite_of {s : State} {r : SReg} {w : Width} {off : BitVec 32} {ps : List Nat} (v : BitVec w.bits)
    (ha : s.accessOk r off w.bytes true = true)
    (hp : s.physAddrs .write s.user w.bytes (s.linear r off) = .ok ps) :
    s.memWrite r w off v =
      .ok { s.noteStores w.bytes (s.linear r off) with mem := memSetBytes s.mem ps (leBytes w.bytes v.toNat) } := by
  simp [State.memWrite, ha, State.linWrite, State.linWriteBytes, hp]

/-- The write check passes only where the access is allowed and every byte has an address. -/
theorem State.writeCheck_ok {s : State} {r : SReg} {off : BitVec 32} {n : Nat} (h : s.writeCheck r off n = .ok ()) :
    s.accessOk r off n true = true ∧ ∃ ps, s.physAddrs .write s.user n (s.linear r off) = .ok ps := by
  unfold State.writeCheck at h
  split at h
  · next ha =>
    split at h
    · cases h
    · next ps hp => exact ⟨ha, ps, hp⟩
  · cases h

/-- All that storing into an r/m operand can do. -/
theorem State.writeRM_ok {s t : State} {w : Width} {rm : RM} {v : BitVec w.bits} (h : s.writeRM w rm v = .ok t) :
    Stores s t w rm v ∧ Kept s t ∧ t.flags = s.flags ∧ t.draws = s.draws := by
  cases rm with
  | reg r =>
    cases h
    exact ⟨⟨rfl, [], rfl, rfl, fun _ _ => rfl⟩, ⟨rfl, rfl, rfl, rfl, rfl, rfl, rfl⟩, rfl, rfl⟩
  | mem ea =>
    obtain ⟨-, ps, hp, rfl⟩ := State.memWrite_ok h
    refine ⟨⟨by simp, ps, hp, rfl, fun a ha => memByte_memSetBytes_other _ _ _ ha⟩,
      ⟨by simp, by simp, by simp, by simp, by simp, by simp, State.noteStores_seq _ _ _⟩, by simp, by simp⟩

/-- A destination that can be read for update passes its write check and is read. -/
theorem State.readDest_ok {s : State} {w : Width} {rm : RM} {a : BitVec w.bits} (h : s.readDest w rm = .ok a) :
    s.checkRM w rm = .ok () ∧ s.readRM w rm = .ok a := by
  unfold State.readDest at h
  split at h
  · cases h
  · next hc => exact ⟨hc, h⟩

/-- An operand that passes its write check can be written in every state with the same view of memory. -/
theorem State.writeRM_of_check {s u : State} {w : Width} {rm : RM} (h : s.checkRM w rm = .ok ()) (hv : SameView s u)
    (v : BitVec w.bits) : ∃ t, u.writeRM w rm v = .ok t := by
  cases rm with
  | reg r => exact ⟨_, rfl⟩
  | mem ea =>
    obtain ⟨hg, hs, hc, hp, hf, hm⟩ := hv
    obtain ⟨ha, ps, hps⟩ := State.writeCheck_ok h
    have e1 : u.eaSeg ea = s.eaSeg ea := by simp [State.eaSeg, State.dataSeg, hp]
    have e2 : u.eaOff ea = s.eaOff ea := by simp [State.eaOff, hg]
    refine ⟨_, State.memWrite_of (ps := ps) v ?_ ?_⟩
    · rw [e1, e2, State.accessOk_congr hs hc hf]; exact ha
    · rw [e1, e2, State.user_congr hs hc hf, State.linear_congr hs, State.physAddrs_congr hc hm]; exact hps

/-- What a store does in a state with the same view is what it does in the first. -/
theorem Stores.of_view {s u t : State} {w : Width} {rm : RM} {v : BitVec w.bits} (hv : SameView s u)
    (h : Stores u t w rm v) : Stores s t w rm v := by
  obtain ⟨hg, hs, hc, hp, hf, hm⟩ := hv
  obtain ⟨h1, ps, h2, h3, h4⟩ := h
  refine ⟨?_, ps, ?_, hm ▸ h3, hm ▸ h4⟩
  · cases rm with
    | reg r => simpa [hg] using h1
    | mem ea => simpa [hg] using h1
  · cases rm with
    | reg r => exact h2
    | mem ea =>
      have e1 : u.eaSeg ea = s.eaSeg ea := by simp [State.eaSeg, State.dataSeg, hp]
      have e2 : u.eaOff ea = s.eaOff ea := by simp [State.eaOff, hg]
      simp only [State.storeAddrs] at h2 ⊢
      rw [← h2, e1, e2, State.user_congr hs hc hf, State.linear_congr hs, State.physAddrs_congr hc hm]

theorem Kept.trans {s u t : State} (h1 : Kept s u) (h2 : Kept u t) : Kept s t := by
  obtain ⟨a1, a2, a3, a4, a5, a6, a7⟩ := h1
  obtain ⟨b1, b2, b3, b4, b5, b6, b7⟩ := h2
  refine ⟨b1.trans a1, b2.trans a2, b3.trans a3, b4.trans a4, b5.trans a5, b6.trans a6, ?_⟩
  rw [← a7, ← b7]

/-- A state made from `s` by writing flags and counting free values. -/
def FlagsOnly (s u : State) : Prop := ∃ f d, f.vm = s.flags.vm ∧ u = { s with flags := f, draws := d }

theorem FlagsOnly.view {s u : State} (h : FlagsOnly s u) : SameView s u := by
  obtain ⟨f, d, hf, rfl⟩ := h
  exact ⟨rfl, rfl, rfl, rfl, hf, rfl⟩

theorem FlagsOnly.kept {s u : State} (h : FlagsOnly s u) : Kept s u := by
  obtain ⟨f, d, -, rfl⟩ := h
  exact ⟨rfl, rfl, rfl, rfl, rfl, rfl, rfl⟩

theorem FlagsOnly.sameMem {s u : State} (h : FlagsOnly s u) : SameMem s u := by
  obtain ⟨f, d, -, rfl⟩ := h
  exact ⟨rfl, fun _ => rfl⟩

/-- All that a read-modify-write can do, where its operand can be read and written. -/
theorem State.updateRM_of {s : State} {w : Width} {rm : RM} {a : BitVec w.bits} (h : s.readDest w rm = .ok a)
    (f : BitVec w.bits → BitVec w.bits × State) (hf : FlagsOnly s (f a).2) :
    ∃ t, s.updateRM w rm f = .ok t ∧ Stores s t w rm (f a).1 ∧ Kept s t ∧ t.flags = (f a).2.flags ∧
      t.draws = (f a).2.draws := by
  obtain ⟨hc, hr⟩ := State.readDest_ok h
  obtain ⟨t, ht⟩ := State.writeRM_of_check hc hf.view (f a).1
  obtain ⟨h1, h2, h3, h4⟩ := State.writeRM_ok ht
  exact ⟨t, by simp [State.updateRM, h, ht], h1.of_view hf.view, hf.kept.trans h2, h3, h4⟩

/-- A meaning whose body succeeds answers its next state. -/
theorem perform_of {rule : GroupRule} {s t : State} {body : State → Res State}
    (h : rule.allows s.seq.pfx.group = true) (hb : body s = .ok t) : perform rule s body = .next t := by
  simp [perform, h, hb, State.settle]

/-- Every instruction takes no prefix of the group. -/
theorem GroupRule.allows_plain {s : State} (r : GroupRule) (h : s.plain) : r.allows s.seq.pfx.group = true := by
  rw [h]; cases r <;> rfl

/-- An instruction without such a prefix answers its body's next state. -/
theorem perform_plain {rule : GroupRule} {s t : State} {body : State → Res State} (h : s.plain) (hb : body s = .ok t) :
    perform rule s body = .next t :=
  perform_of (rule.allows_plain h) hb

end Sys2Proof.Machine
end

