-- ==== Sys2Proof/Laws/Dispatch.lean ====
section
/-! SUPPORT. Laws/Dispatch.lean: exec of each instruction is its meaning. -/

namespace Sys2Proof.Machine

variable (s : State)

@[simp] theorem exec_addRm8R8 (rm : RM) (r : Reg) : exec (.addRm8R8 rm r) s = execAddRm8R8 rm r s := rfl
@[simp] theorem exec_addRmvRv (rm : RM) (r : Reg) : exec (.addRmvRv rm r) s = execAddRmvRv rm r s := rfl
@[simp] theorem exec_addR8Rm8 (r : Reg) (rm : RM) : exec (.addR8Rm8 r rm) s = execAddR8Rm8 r rm s := rfl
@[simp] theorem exec_addRvRmv (r : Reg) (rm : RM) : exec (.addRvRmv r rm) s = execAddRvRmv r rm s := rfl
@[simp] theorem exec_addAlImm8 (imm : BitVec 8) : exec (.addAlImm8 imm) s = execAddAlImm8 imm s := rfl
@[simp] theorem exec_addEaxImmv (imm : VImm) : exec (.addEaxImmv imm) s = execAddEaxImmv imm s := rfl
@[simp] theorem exec_addRm8Imm8 (rm : RM) (imm : BitVec 8) :
    exec (.addRm8Imm8 rm imm) s = execAddRm8Imm8 rm imm s := rfl
@[simp] theorem exec_addRmvImmv (rm : RM) (imm : VImm) : exec (.addRmvImmv rm imm) s = execAddRmvImmv rm imm s := rfl
@[simp] theorem exec_addRmvImm8 (rm : RM) (imm : BitVec 8) :
    exec (.addRmvImm8 rm imm) s = execAddRmvImm8 rm imm s := rfl
@[simp] theorem exec_orRm8R8 (rm : RM) (r : Reg) : exec (.orRm8R8 rm r) s = execOrRm8R8 rm r s := rfl
@[simp] theorem exec_orRmvRv (rm : RM) (r : Reg) : exec (.orRmvRv rm r) s = execOrRmvRv rm r s := rfl
@[simp] theorem exec_orR8Rm8 (r : Reg) (rm : RM) : exec (.orR8Rm8 r rm) s = execOrR8Rm8 r rm s := rfl
@[simp] theorem exec_orRvRmv (r : Reg) (rm : RM) : exec (.orRvRmv r rm) s = execOrRvRmv r rm s := rfl
@[simp] theorem exec_orAlImm8 (imm : BitVec 8) : exec (.orAlImm8 imm) s = execOrAlImm8 imm s := rfl
@[simp] theorem exec_orEaxImmv (imm : VImm) : exec (.orEaxImmv imm) s = execOrEaxImmv imm s := rfl
@[simp] theorem exec_orRm8Imm8 (rm : RM) (imm : BitVec 8) : exec (.orRm8Imm8 rm imm) s = execOrRm8Imm8 rm imm s := rfl
@[simp] theorem exec_orRmvImmv (rm : RM) (imm : VImm) : exec (.orRmvImmv rm imm) s = execOrRmvImmv rm imm s := rfl
@[simp] theorem exec_orRmvImm8 (rm : RM) (imm : BitVec 8) : exec (.orRmvImm8 rm imm) s = execOrRmvImm8 rm imm s := rfl
@[simp] theorem exec_adcRm8R8 (rm : RM) (r : Reg) : exec (.adcRm8R8 rm r) s = execAdcRm8R8 rm r s := rfl
@[simp] theorem exec_adcRmvRv (rm : RM) (r : Reg) : exec (.adcRmvRv rm r) s = execAdcRmvRv rm r s := rfl
@[simp] theorem exec_adcR8Rm8 (r : Reg) (rm : RM) : exec (.adcR8Rm8 r rm) s = execAdcR8Rm8 r rm s := rfl
@[simp] theorem exec_adcRvRmv (r : Reg) (rm : RM) : exec (.adcRvRmv r rm) s = execAdcRvRmv r rm s := rfl
@[simp] theorem exec_adcAlImm8 (imm : BitVec 8) : exec (.adcAlImm8 imm) s = execAdcAlImm8 imm s := rfl
@[simp] theorem exec_adcEaxImmv (imm : VImm) : exec (.adcEaxImmv imm) s = execAdcEaxImmv imm s := rfl
@[simp] theorem exec_adcRm8Imm8 (rm : RM) (imm : BitVec 8) :
    exec (.adcRm8Imm8 rm imm) s = execAdcRm8Imm8 rm imm s := rfl
@[simp] theorem exec_adcRmvImmv (rm : RM) (imm : VImm) : exec (.adcRmvImmv rm imm) s = execAdcRmvImmv rm imm s := rfl
@[simp] theorem exec_adcRmvImm8 (rm : RM) (imm : BitVec 8) :
    exec (.adcRmvImm8 rm imm) s = execAdcRmvImm8 rm imm s := rfl
@[simp] theorem exec_sbbRm8R8 (rm : RM) (r : Reg) : exec (.sbbRm8R8 rm r) s = execSbbRm8R8 rm r s := rfl
@[simp] theorem exec_sbbRmvRv (rm : RM) (r : Reg) : exec (.sbbRmvRv rm r) s = execSbbRmvRv rm r s := rfl
@[simp] theorem exec_sbbR8Rm8 (r : Reg) (rm : RM) : exec (.sbbR8Rm8 r rm) s = execSbbR8Rm8 r rm s := rfl
@[simp] theorem exec_sbbRvRmv (r : Reg) (rm : RM) : exec (.sbbRvRmv r rm) s = execSbbRvRmv r rm s := rfl
@[simp] theorem exec_sbbAlImm8 (imm : BitVec 8) : exec (.sbbAlImm8 imm) s = execSbbAlImm8 imm s := rfl
@[simp] theorem exec_sbbEaxImmv (imm : VImm) : exec (.sbbEaxImmv imm) s = execSbbEaxImmv imm s := rfl
@[simp] theorem exec_sbbRm8Imm8 (rm : RM) (imm : BitVec 8) :
    exec (.sbbRm8Imm8 rm imm) s = execSbbRm8Imm8 rm imm s := rfl
@[simp] theorem exec_sbbRmvImmv (rm : RM) (imm : VImm) : exec (.sbbRmvImmv rm imm) s = execSbbRmvImmv rm imm s := rfl
@[simp] theorem exec_sbbRmvImm8 (rm : RM) (imm : BitVec 8) :
    exec (.sbbRmvImm8 rm imm) s = execSbbRmvImm8 rm imm s := rfl
@[simp] theorem exec_andRm8R8 (rm : RM) (r : Reg) : exec (.andRm8R8 rm r) s = execAndRm8R8 rm r s := rfl
@[simp] theorem exec_andRmvRv (rm : RM) (r : Reg) : exec (.andRmvRv rm r) s = execAndRmvRv rm r s := rfl
@[simp] theorem exec_andR8Rm8 (r : Reg) (rm : RM) : exec (.andR8Rm8 r rm) s = execAndR8Rm8 r rm s := rfl
@[simp] theorem exec_andRvRmv (r : Reg) (rm : RM) : exec (.andRvRmv r rm) s = execAndRvRmv r rm s := rfl
@[simp] theorem exec_andAlImm8 (imm : BitVec 8) : exec (.andAlImm8 imm) s = execAndAlImm8 imm s := rfl
@[simp] theorem exec_andEaxImmv (imm : VImm) : exec (.andEaxImmv imm) s = execAndEaxImmv imm s := rfl
@[simp] theorem exec_andRm8Imm8 (rm : RM) (imm : BitVec 8) :
    exec (.andRm8Imm8 rm imm) s = execAndRm8Imm8 rm imm s := rfl
@[simp] theorem exec_andRmvImmv (rm : RM) (imm : VImm) : exec (.andRmvImmv rm imm) s = execAndRmvImmv rm imm s := rfl
@[simp] theorem exec_andRmvImm8 (rm : RM) (imm : BitVec 8) :
    exec (.andRmvImm8 rm imm) s = execAndRmvImm8 rm imm s := rfl
@[simp] theorem exec_subRm8R8 (rm : RM) (r : Reg) : exec (.subRm8R8 rm r) s = execSubRm8R8 rm r s := rfl
@[simp] theorem exec_subRmvRv (rm : RM) (r : Reg) : exec (.subRmvRv rm r) s = execSubRmvRv rm r s := rfl
@[simp] theorem exec_subR8Rm8 (r : Reg) (rm : RM) : exec (.subR8Rm8 r rm) s = execSubR8Rm8 r rm s := rfl
@[simp] theorem exec_subRvRmv (r : Reg) (rm : RM) : exec (.subRvRmv r rm) s = execSubRvRmv r rm s := rfl
@[simp] theorem exec_subAlImm8 (imm : BitVec 8) : exec (.subAlImm8 imm) s = execSubAlImm8 imm s := rfl
@[simp] theorem exec_subEaxImmv (imm : VImm) : exec (.subEaxImmv imm) s = execSubEaxImmv imm s := rfl
@[simp] theorem exec_subRm8Imm8 (rm : RM) (imm : BitVec 8) :
    exec (.subRm8Imm8 rm imm) s = execSubRm8Imm8 rm imm s := rfl
@[simp] theorem exec_subRmvImmv (rm : RM) (imm : VImm) : exec (.subRmvImmv rm imm) s = execSubRmvImmv rm imm s := rfl
@[simp] theorem exec_subRmvImm8 (rm : RM) (imm : BitVec 8) :
    exec (.subRmvImm8 rm imm) s = execSubRmvImm8 rm imm s := rfl
@[simp] theorem exec_xorRm8R8 (rm : RM) (r : Reg) : exec (.xorRm8R8 rm r) s = execXorRm8R8 rm r s := rfl
@[simp] theorem exec_xorRmvRv (rm : RM) (r : Reg) : exec (.xorRmvRv rm r) s = execXorRmvRv rm r s := rfl
@[simp] theorem exec_xorR8Rm8 (r : Reg) (rm : RM) : exec (.xorR8Rm8 r rm) s = execXorR8Rm8 r rm s := rfl
@[simp] theorem exec_xorRvRmv (r : Reg) (rm : RM) : exec (.xorRvRmv r rm) s = execXorRvRmv r rm s := rfl
@[simp] theorem exec_xorAlImm8 (imm : BitVec 8) : exec (.xorAlImm8 imm) s = execXorAlImm8 imm s := rfl
@[simp] theorem exec_xorEaxImmv (imm : VImm) : exec (.xorEaxImmv imm) s = execXorEaxImmv imm s := rfl
@[simp] theorem exec_xorRm8Imm8 (rm : RM) (imm : BitVec 8) :
    exec (.xorRm8Imm8 rm imm) s = execXorRm8Imm8 rm imm s := rfl
@[simp] theorem exec_xorRmvImmv (rm : RM) (imm : VImm) : exec (.xorRmvImmv rm imm) s = execXorRmvImmv rm imm s := rfl
@[simp] theorem exec_xorRmvImm8 (rm : RM) (imm : BitVec 8) :
    exec (.xorRmvImm8 rm imm) s = execXorRmvImm8 rm imm s := rfl
@[simp] theorem exec_cmpRm8R8 (rm : RM) (r : Reg) : exec (.cmpRm8R8 rm r) s = execCmpRm8R8 rm r s := rfl
@[simp] theorem exec_cmpRmvRv (rm : RM) (r : Reg) : exec (.cmpRmvRv rm r) s = execCmpRmvRv rm r s := rfl
@[simp] theorem exec_cmpR8Rm8 (r : Reg) (rm : RM) : exec (.cmpR8Rm8 r rm) s = execCmpR8Rm8 r rm s := rfl
@[simp] theorem exec_cmpRvRmv (r : Reg) (rm : RM) : exec (.cmpRvRmv r rm) s = execCmpRvRmv r rm s := rfl
@[simp] theorem exec_cmpAlImm8 (imm : BitVec 8) : exec (.cmpAlImm8 imm) s = execCmpAlImm8 imm s := rfl
@[simp] theorem exec_cmpEaxImmv (imm : VImm) : exec (.cmpEaxImmv imm) s = execCmpEaxImmv imm s := rfl
@[simp] theorem exec_cmpRm8Imm8 (rm : RM) (imm : BitVec 8) :
    exec (.cmpRm8Imm8 rm imm) s = execCmpRm8Imm8 rm imm s := rfl
@[simp] theorem exec_cmpRmvImmv (rm : RM) (imm : VImm) : exec (.cmpRmvImmv rm imm) s = execCmpRmvImmv rm imm s := rfl
@[simp] theorem exec_cmpRmvImm8 (rm : RM) (imm : BitVec 8) :
    exec (.cmpRmvImm8 rm imm) s = execCmpRmvImm8 rm imm s := rfl
@[simp] theorem exec_aam (imm : BitVec 8) : exec (.aam imm) s = execAam imm s := rfl
@[simp] theorem exec_aad (imm : BitVec 8) : exec (.aad imm) s = execAad imm s := rfl
@[simp] theorem exec_incRv (r : Reg) : exec (.incRv r) s = execIncRv r s := rfl
@[simp] theorem exec_decRv (r : Reg) : exec (.decRv r) s = execDecRv r s := rfl
@[simp] theorem exec_pushRv (r : Reg) : exec (.pushRv r) s = execPushRv r s := rfl
@[simp] theorem exec_popRv (r : Reg) : exec (.popRv r) s = execPopRv r s := rfl
@[simp] theorem exec_bound (r : Reg) (rm : RM) : exec (.bound r rm) s = execBound r rm s := rfl
@[simp] theorem exec_arpl (rm : RM) (r : Reg) : exec (.arpl rm r) s = execArpl rm r s := rfl
@[simp] theorem exec_pushImmv (imm : VImm) : exec (.pushImmv imm) s = execPushImmv imm s := rfl
@[simp] theorem exec_imulRvRmvImmv (r : Reg) (rm : RM) (imm : VImm) :
    exec (.imulRvRmvImmv r rm imm) s = execImulRvRmvImmv r rm imm s := rfl
@[simp] theorem exec_pushImm8 (imm : BitVec 8) : exec (.pushImm8 imm) s = execPushImm8 imm s := rfl
@[simp] theorem exec_imulRvRmvImm8 (r : Reg) (rm : RM) (imm : BitVec 8) :
    exec (.imulRvRmvImm8 r rm imm) s = execImulRvRmvImm8 r rm imm s := rfl
@[simp] theorem exec_jo (rel : Rel) : exec (.jo rel) s = execJo rel s := rfl
@[simp] theorem exec_jno (rel : Rel) : exec (.jno rel) s = execJno rel s := rfl
@[simp] theorem exec_jb (rel : Rel) : exec (.jb rel) s = execJb rel s := rfl
@[simp] theorem exec_jnb (rel : Rel) : exec (.jnb rel) s = execJnb rel s := rfl
@[simp] theorem exec_jz (rel : Rel) : exec (.jz rel) s = execJz rel s := rfl
@[simp] theorem exec_jnz (rel : Rel) : exec (.jnz rel) s = execJnz rel s := rfl
@[simp] theorem exec_jbe (rel : Rel) : exec (.jbe rel) s = execJbe rel s := rfl
@[simp] theorem exec_jnbe (rel : Rel) : exec (.jnbe rel) s = execJnbe rel s := rfl
@[simp] theorem exec_js (rel : Rel) : exec (.js rel) s = execJs rel s := rfl
@[simp] theorem exec_jns (rel : Rel) : exec (.jns rel) s = execJns rel s := rfl
@[simp] theorem exec_jp (rel : Rel) : exec (.jp rel) s = execJp rel s := rfl
@[simp] theorem exec_jnp (rel : Rel) : exec (.jnp rel) s = execJnp rel s := rfl
@[simp] theorem exec_jl (rel : Rel) : exec (.jl rel) s = execJl rel s := rfl
@[simp] theorem exec_jnl (rel : Rel) : exec (.jnl rel) s = execJnl rel s := rfl
@[simp] theorem exec_jle (rel : Rel) : exec (.jle rel) s = execJle rel s := rfl
@[simp] theorem exec_jnle (rel : Rel) : exec (.jnle rel) s = execJnle rel s := rfl
@[simp] theorem exec_seto (rm : RM) : exec (.seto rm) s = execSeto rm s := rfl
@[simp] theorem exec_setno (rm : RM) : exec (.setno rm) s = execSetno rm s := rfl
@[simp] theorem exec_setb (rm : RM) : exec (.setb rm) s = execSetb rm s := rfl
@[simp] theorem exec_setnb (rm : RM) : exec (.setnb rm) s = execSetnb rm s := rfl
@[simp] theorem exec_setz (rm : RM) : exec (.setz rm) s = execSetz rm s := rfl
@[simp] theorem exec_setnz (rm : RM) : exec (.setnz rm) s = execSetnz rm s := rfl
@[simp] theorem exec_setbe (rm : RM) : exec (.setbe rm) s = execSetbe rm s := rfl
@[simp] theorem exec_setnbe (rm : RM) : exec (.setnbe rm) s = execSetnbe rm s := rfl
@[simp] theorem exec_sets (rm : RM) : exec (.sets rm) s = execSets rm s := rfl
@[simp] theorem exec_setns (rm : RM) : exec (.setns rm) s = execSetns rm s := rfl
@[simp] theorem exec_setp (rm : RM) : exec (.setp rm) s = execSetp rm s := rfl
@[simp] theorem exec_setnp (rm : RM) : exec (.setnp rm) s = execSetnp rm s := rfl
@[simp] theorem exec_setl (rm : RM) : exec (.setl rm) s = execSetl rm s := rfl
@[simp] theorem exec_setnl (rm : RM) : exec (.setnl rm) s = execSetnl rm s := rfl
@[simp] theorem exec_setle (rm : RM) : exec (.setle rm) s = execSetle rm s := rfl
@[simp] theorem exec_setnle (rm : RM) : exec (.setnle rm) s = execSetnle rm s := rfl
@[simp] theorem exec_testRm8R8 (rm : RM) (r : Reg) : exec (.testRm8R8 rm r) s = execTestRm8R8 rm r s := rfl
@[simp] theorem exec_testRmvRv (rm : RM) (r : Reg) : exec (.testRmvRv rm r) s = execTestRmvRv rm r s := rfl
@[simp] theorem exec_xchgRm8R8 (rm : RM) (r : Reg) : exec (.xchgRm8R8 rm r) s = execXchgRm8R8 rm r s := rfl
@[simp] theorem exec_xchgRmvRv (rm : RM) (r : Reg) : exec (.xchgRmvRv rm r) s = execXchgRmvRv rm r s := rfl
@[simp] theorem exec_movRm8R8 (rm : RM) (r : Reg) : exec (.movRm8R8 rm r) s = execMovRm8R8 rm r s := rfl
@[simp] theorem exec_movRmvRv (rm : RM) (r : Reg) : exec (.movRmvRv rm r) s = execMovRmvRv rm r s := rfl
@[simp] theorem exec_movR8Rm8 (r : Reg) (rm : RM) : exec (.movR8Rm8 r rm) s = execMovR8Rm8 r rm s := rfl
@[simp] theorem exec_movRvRmv (r : Reg) (rm : RM) : exec (.movRvRmv r rm) s = execMovRvRmv r rm s := rfl
@[simp] theorem exec_movRmSreg (rm : RM) (code : BitVec 3) :
    exec (.movRmSreg rm code) s = execMovRmSreg rm code s := rfl
@[simp] theorem exec_lea (r : Reg) (rm : RM) : exec (.lea r rm) s = execLea r rm s := rfl
@[simp] theorem exec_movSregRm (code : BitVec 3) (rm : RM) :
    exec (.movSregRm code rm) s = execMovSregRm code rm s := rfl
@[simp] theorem exec_popRmv (rm : RM) : exec (.popRmv rm) s = execPopRmv rm s := rfl
@[simp] theorem exec_xchgEaxRv (r : Reg) : exec (.xchgEaxRv r) s = execXchgEaxRv r s := rfl
@[simp] theorem exec_callFar (off : VImm) (sel : BitVec 16) : exec (.callFar off sel) s = execCallFar off sel s := rfl
@[simp] theorem exec_movAlMoffs (off : VImm) : exec (.movAlMoffs off) s = execMovAlMoffs off s := rfl
@[simp] theorem exec_movEaxMoffs (off : VImm) : exec (.movEaxMoffs off) s = execMovEaxMoffs off s := rfl
@[simp] theorem exec_movMoffsAl (off : VImm) : exec (.movMoffsAl off) s = execMovMoffsAl off s := rfl
@[simp] theorem exec_movMoffsEax (off : VImm) : exec (.movMoffsEax off) s = execMovMoffsEax off s := rfl
@[simp] theorem exec_testAlImm8 (imm : BitVec 8) : exec (.testAlImm8 imm) s = execTestAlImm8 imm s := rfl
@[simp] theorem exec_testEaxImmv (imm : VImm) : exec (.testEaxImmv imm) s = execTestEaxImmv imm s := rfl
@[simp] theorem exec_movR8Imm8 (r : Reg) (imm : BitVec 8) : exec (.movR8Imm8 r imm) s = execMovR8Imm8 r imm s := rfl
@[simp] theorem exec_movRvImmv (r : Reg) (imm : VImm) : exec (.movRvImmv r imm) s = execMovRvImmv r imm s := rfl
@[simp] theorem exec_rolRm8 (rm : RM) (count : Count) : exec (.rolRm8 rm count) s = execRolRm8 rm count s := rfl
@[simp] theorem exec_rolRmv (rm : RM) (count : Count) : exec (.rolRmv rm count) s = execRolRmv rm count s := rfl
@[simp] theorem exec_rorRm8 (rm : RM) (count : Count) : exec (.rorRm8 rm count) s = execRorRm8 rm count s := rfl
@[simp] theorem exec_rorRmv (rm : RM) (count : Count) : exec (.rorRmv rm count) s = execRorRmv rm count s := rfl
@[simp] theorem exec_rclRm8 (rm : RM) (count : Count) : exec (.rclRm8 rm count) s = execRclRm8 rm count s := rfl
@[simp] theorem exec_rclRmv (rm : RM) (count : Count) : exec (.rclRmv rm count) s = execRclRmv rm count s := rfl
@[simp] theorem exec_rcrRm8 (rm : RM) (count : Count) : exec (.rcrRm8 rm count) s = execRcrRm8 rm count s := rfl
@[simp] theorem exec_rcrRmv (rm : RM) (count : Count) : exec (.rcrRmv rm count) s = execRcrRmv rm count s := rfl
@[simp] theorem exec_shlRm8 (rm : RM) (count : Count) : exec (.shlRm8 rm count) s = execShlRm8 rm count s := rfl
@[simp] theorem exec_shlRmv (rm : RM) (count : Count) : exec (.shlRmv rm count) s = execShlRmv rm count s := rfl
@[simp] theorem exec_shrRm8 (rm : RM) (count : Count) : exec (.shrRm8 rm count) s = execShrRm8 rm count s := rfl
@[simp] theorem exec_shrRmv (rm : RM) (count : Count) : exec (.shrRmv rm count) s = execShrRmv rm count s := rfl
@[simp] theorem exec_sarRm8 (rm : RM) (count : Count) : exec (.sarRm8 rm count) s = execSarRm8 rm count s := rfl
@[simp] theorem exec_sarRmv (rm : RM) (count : Count) : exec (.sarRmv rm count) s = execSarRmv rm count s := rfl
@[simp] theorem exec_retNearImm (imm : BitVec 16) : exec (.retNearImm imm) s = execRetNearImm imm s := rfl
@[simp] theorem exec_les (r : Reg) (rm : RM) : exec (.les r rm) s = execLes r rm s := rfl
@[simp] theorem exec_lds (r : Reg) (rm : RM) : exec (.lds r rm) s = execLds r rm s := rfl
@[simp] theorem exec_movRm8Imm8 (rm : RM) (imm : BitVec 8) :
    exec (.movRm8Imm8 rm imm) s = execMovRm8Imm8 rm imm s := rfl
@[simp] theorem exec_movRmvImmv (rm : RM) (imm : VImm) : exec (.movRmvImmv rm imm) s = execMovRmvImmv rm imm s := rfl
@[simp] theorem exec_enter (size : BitVec 16) (level : BitVec 8) :
    exec (.enter size level) s = execEnter size level s := rfl
@[simp] theorem exec_retFarImm (imm : BitVec 16) : exec (.retFarImm imm) s = execRetFarImm imm s := rfl
@[simp] theorem exec_intN (imm : BitVec 8) : exec (.intN imm) s = execIntN imm s := rfl
@[simp] theorem exec_esc (op : BitVec 3) (reg : BitVec 3) (rm : RM) :
    exec (.esc op reg rm) s = execEsc op reg rm s := rfl
@[simp] theorem exec_loopneRel8 (imm : BitVec 8) : exec (.loopneRel8 imm) s = execLoopneRel8 imm s := rfl
@[simp] theorem exec_loopeRel8 (imm : BitVec 8) : exec (.loopeRel8 imm) s = execLoopeRel8 imm s := rfl
@[simp] theorem exec_loopRel8 (imm : BitVec 8) : exec (.loopRel8 imm) s = execLoopRel8 imm s := rfl
@[simp] theorem exec_jcxzRel8 (imm : BitVec 8) : exec (.jcxzRel8 imm) s = execJcxzRel8 imm s := rfl
@[simp] theorem exec_inAlImm8 (imm : BitVec 8) : exec (.inAlImm8 imm) s = execInAlImm8 imm s := rfl
@[simp] theorem exec_inEaxImm8 (imm : BitVec 8) : exec (.inEaxImm8 imm) s = execInEaxImm8 imm s := rfl
@[simp] theorem exec_outImm8Al (imm : BitVec 8) : exec (.outImm8Al imm) s = execOutImm8Al imm s := rfl
@[simp] theorem exec_outImm8Eax (imm : BitVec 8) : exec (.outImm8Eax imm) s = execOutImm8Eax imm s := rfl
@[simp] theorem exec_callRelv (imm : VImm) : exec (.callRelv imm) s = execCallRelv imm s := rfl
@[simp] theorem exec_jmpRelv (imm : VImm) : exec (.jmpRelv imm) s = execJmpRelv imm s := rfl
@[simp] theorem exec_jmpFar (off : VImm) (sel : BitVec 16) : exec (.jmpFar off sel) s = execJmpFar off sel s := rfl
@[simp] theorem exec_jmpRel8 (imm : BitVec 8) : exec (.jmpRel8 imm) s = execJmpRel8 imm s := rfl
@[simp] theorem exec_testRm8Imm8 (rm : RM) (imm : BitVec 8) :
    exec (.testRm8Imm8 rm imm) s = execTestRm8Imm8 rm imm s := rfl
@[simp] theorem exec_testRmvImmv (rm : RM) (imm : VImm) :
    exec (.testRmvImmv rm imm) s = execTestRmvImmv rm imm s := rfl
@[simp] theorem exec_notRm8 (rm : RM) : exec (.notRm8 rm) s = execNotRm8 rm s := rfl
@[simp] theorem exec_notRmv (rm : RM) : exec (.notRmv rm) s = execNotRmv rm s := rfl
@[simp] theorem exec_negRm8 (rm : RM) : exec (.negRm8 rm) s = execNegRm8 rm s := rfl
@[simp] theorem exec_negRmv (rm : RM) : exec (.negRmv rm) s = execNegRmv rm s := rfl
@[simp] theorem exec_mulRm8 (rm : RM) : exec (.mulRm8 rm) s = execMulRm8 rm s := rfl
@[simp] theorem exec_mulRmv (rm : RM) : exec (.mulRmv rm) s = execMulRmv rm s := rfl
@[simp] theorem exec_imulRm8 (rm : RM) : exec (.imulRm8 rm) s = execImulRm8 rm s := rfl
@[simp] theorem exec_imulRmv (rm : RM) : exec (.imulRmv rm) s = execImulRmv rm s := rfl
@[simp] theorem exec_divRm8 (rm : RM) : exec (.divRm8 rm) s = execDivRm8 rm s := rfl
@[simp] theorem exec_divRmv (rm : RM) : exec (.divRmv rm) s = execDivRmv rm s := rfl
@[simp] theorem exec_idivRm8 (rm : RM) : exec (.idivRm8 rm) s = execIdivRm8 rm s := rfl
@[simp] theorem exec_idivRmv (rm : RM) : exec (.idivRmv rm) s = execIdivRmv rm s := rfl
@[simp] theorem exec_incRm8 (rm : RM) : exec (.incRm8 rm) s = execIncRm8 rm s := rfl
@[simp] theorem exec_decRm8 (rm : RM) : exec (.decRm8 rm) s = execDecRm8 rm s := rfl
@[simp] theorem exec_incRmv (rm : RM) : exec (.incRmv rm) s = execIncRmv rm s := rfl
@[simp] theorem exec_decRmv (rm : RM) : exec (.decRmv rm) s = execDecRmv rm s := rfl
@[simp] theorem exec_callRmv (rm : RM) : exec (.callRmv rm) s = execCallRmv rm s := rfl
@[simp] theorem exec_callFarM (rm : RM) : exec (.callFarM rm) s = execCallFarM rm s := rfl
@[simp] theorem exec_jmpRmv (rm : RM) : exec (.jmpRmv rm) s = execJmpRmv rm s := rfl
@[simp] theorem exec_jmpFarM (rm : RM) : exec (.jmpFarM rm) s = execJmpFarM rm s := rfl
@[simp] theorem exec_pushRmv (rm : RM) : exec (.pushRmv rm) s = execPushRmv rm s := rfl
@[simp] theorem exec_sldt (rm : RM) : exec (.sldt rm) s = execSldt rm s := rfl
@[simp] theorem exec_str (rm : RM) : exec (.str rm) s = execStr rm s := rfl
@[simp] theorem exec_lldt (rm : RM) : exec (.lldt rm) s = execLldt rm s := rfl
@[simp] theorem exec_ltr (rm : RM) : exec (.ltr rm) s = execLtr rm s := rfl
@[simp] theorem exec_verr (rm : RM) : exec (.verr rm) s = execVerr rm s := rfl
@[simp] theorem exec_verw (rm : RM) : exec (.verw rm) s = execVerw rm s := rfl
@[simp] theorem exec_sgdt (rm : RM) : exec (.sgdt rm) s = execSgdt rm s := rfl
@[simp] theorem exec_sidt (rm : RM) : exec (.sidt rm) s = execSidt rm s := rfl
@[simp] theorem exec_lgdt (rm : RM) : exec (.lgdt rm) s = execLgdt rm s := rfl
@[simp] theorem exec_lidt (rm : RM) : exec (.lidt rm) s = execLidt rm s := rfl
@[simp] theorem exec_smsw (rm : RM) : exec (.smsw rm) s = execSmsw rm s := rfl
@[simp] theorem exec_lmsw (rm : RM) : exec (.lmsw rm) s = execLmsw rm s := rfl
@[simp] theorem exec_lar (r : Reg) (rm : RM) : exec (.lar r rm) s = execLar r rm s := rfl
@[simp] theorem exec_lsl (r : Reg) (rm : RM) : exec (.lsl r rm) s = execLsl r rm s := rfl
@[simp] theorem exec_movRCr (r : Reg) (code : BitVec 3) : exec (.movRCr r code) s = execMovRCr r code s := rfl
@[simp] theorem exec_movRDr (r : Reg) (code : BitVec 3) : exec (.movRDr r code) s = execMovRDr r code s := rfl
@[simp] theorem exec_movCrR (code : BitVec 3) (r : Reg) : exec (.movCrR code r) s = execMovCrR code r s := rfl
@[simp] theorem exec_movDrR (code : BitVec 3) (r : Reg) : exec (.movDrR code r) s = execMovDrR code r s := rfl
@[simp] theorem exec_movRTr (r : Reg) (code : BitVec 3) : exec (.movRTr r code) s = execMovRTr r code s := rfl
@[simp] theorem exec_movTrR (code : BitVec 3) (r : Reg) : exec (.movTrR code r) s = execMovTrR code r s := rfl
@[simp] theorem exec_btRmvRv (rm : RM) (r : Reg) : exec (.btRmvRv rm r) s = execBtRmvRv rm r s := rfl
@[simp] theorem exec_shldImm8 (rm : RM) (r : Reg) (imm : BitVec 8) :
    exec (.shldImm8 rm r imm) s = execShldImm8 rm r imm s := rfl
@[simp] theorem exec_shldCl (rm : RM) (r : Reg) : exec (.shldCl rm r) s = execShldCl rm r s := rfl
@[simp] theorem exec_btsRmvRv (rm : RM) (r : Reg) : exec (.btsRmvRv rm r) s = execBtsRmvRv rm r s := rfl
@[simp] theorem exec_shrdImm8 (rm : RM) (r : Reg) (imm : BitVec 8) :
    exec (.shrdImm8 rm r imm) s = execShrdImm8 rm r imm s := rfl
@[simp] theorem exec_shrdCl (rm : RM) (r : Reg) : exec (.shrdCl rm r) s = execShrdCl rm r s := rfl
@[simp] theorem exec_imulRvRmv (r : Reg) (rm : RM) : exec (.imulRvRmv r rm) s = execImulRvRmv r rm s := rfl
@[simp] theorem exec_lss (r : Reg) (rm : RM) : exec (.lss r rm) s = execLss r rm s := rfl
@[simp] theorem exec_btrRmvRv (rm : RM) (r : Reg) : exec (.btrRmvRv rm r) s = execBtrRmvRv rm r s := rfl
@[simp] theorem exec_lfs (r : Reg) (rm : RM) : exec (.lfs r rm) s = execLfs r rm s := rfl
@[simp] theorem exec_lgs (r : Reg) (rm : RM) : exec (.lgs r rm) s = execLgs r rm s := rfl
@[simp] theorem exec_movzxRm8 (r : Reg) (rm : RM) : exec (.movzxRm8 r rm) s = execMovzxRm8 r rm s := rfl
@[simp] theorem exec_movzxRm16 (r : Reg) (rm : RM) : exec (.movzxRm16 r rm) s = execMovzxRm16 r rm s := rfl
@[simp] theorem exec_btRmvImm8 (rm : RM) (imm : BitVec 8) : exec (.btRmvImm8 rm imm) s = execBtRmvImm8 rm imm s := rfl
@[simp] theorem exec_btsRmvImm8 (rm : RM) (imm : BitVec 8) :
    exec (.btsRmvImm8 rm imm) s = execBtsRmvImm8 rm imm s := rfl
@[simp] theorem exec_btrRmvImm8 (rm : RM) (imm : BitVec 8) :
    exec (.btrRmvImm8 rm imm) s = execBtrRmvImm8 rm imm s := rfl
@[simp] theorem exec_btcRmvImm8 (rm : RM) (imm : BitVec 8) :
    exec (.btcRmvImm8 rm imm) s = execBtcRmvImm8 rm imm s := rfl
@[simp] theorem exec_btcRmvRv (rm : RM) (r : Reg) : exec (.btcRmvRv rm r) s = execBtcRmvRv rm r s := rfl
@[simp] theorem exec_bsf (r : Reg) (rm : RM) : exec (.bsf r rm) s = execBsf r rm s := rfl
@[simp] theorem exec_bsr (r : Reg) (rm : RM) : exec (.bsr r rm) s = execBsr r rm s := rfl
@[simp] theorem exec_movsxRm8 (r : Reg) (rm : RM) : exec (.movsxRm8 r rm) s = execMovsxRm8 r rm s := rfl
@[simp] theorem exec_movsxRm16 (r : Reg) (rm : RM) : exec (.movsxRm16 r rm) s = execMovsxRm16 r rm s := rfl
@[simp] theorem exec_pushEs : exec (.pushEs) s = execPushEs s := rfl
@[simp] theorem exec_pushCs : exec (.pushCs) s = execPushCs s := rfl
@[simp] theorem exec_pushSs : exec (.pushSs) s = execPushSs s := rfl
@[simp] theorem exec_pushDs : exec (.pushDs) s = execPushDs s := rfl
@[simp] theorem exec_popEs : exec (.popEs) s = execPopEs s := rfl
@[simp] theorem exec_popSs : exec (.popSs) s = execPopSs s := rfl
@[simp] theorem exec_popDs : exec (.popDs) s = execPopDs s := rfl
@[simp] theorem exec_pushFs : exec (.pushFs) s = execPushFs s := rfl
@[simp] theorem exec_popFs : exec (.popFs) s = execPopFs s := rfl
@[simp] theorem exec_pushGs : exec (.pushGs) s = execPushGs s := rfl
@[simp] theorem exec_popGs : exec (.popGs) s = execPopGs s := rfl
@[simp] theorem exec_segEs : exec (.segEs) s = execSegEs s := rfl
@[simp] theorem exec_segCs : exec (.segCs) s = execSegCs s := rfl
@[simp] theorem exec_segSs : exec (.segSs) s = execSegSs s := rfl
@[simp] theorem exec_segDs : exec (.segDs) s = execSegDs s := rfl
@[simp] theorem exec_segFs : exec (.segFs) s = execSegFs s := rfl
@[simp] theorem exec_segGs : exec (.segGs) s = execSegGs s := rfl
@[simp] theorem exec_opsize : exec (.opsize) s = execOpsize s := rfl
@[simp] theorem exec_addrsize : exec (.addrsize) s = execAddrsize s := rfl
@[simp] theorem exec_lock : exec (.lock) s = execLock s := rfl
@[simp] theorem exec_repne : exec (.repne) s = execRepne s := rfl
@[simp] theorem exec_rep : exec (.rep) s = execRep s := rfl
@[simp] theorem exec_daa : exec (.daa) s = execDaa s := rfl
@[simp] theorem exec_das : exec (.das) s = execDas s := rfl
@[simp] theorem exec_aaa : exec (.aaa) s = execAaa s := rfl
@[simp] theorem exec_aas : exec (.aas) s = execAas s := rfl
@[simp] theorem exec_pusha : exec (.pusha) s = execPusha s := rfl
@[simp] theorem exec_popa : exec (.popa) s = execPopa s := rfl
@[simp] theorem exec_insB : exec (.insB) s = execInsB s := rfl
@[simp] theorem exec_insV : exec (.insV) s = execInsV s := rfl
@[simp] theorem exec_outsB : exec (.outsB) s = execOutsB s := rfl
@[simp] theorem exec_outsV : exec (.outsV) s = execOutsV s := rfl
@[simp] theorem exec_nop : exec (.nop) s = execNop s := rfl
@[simp] theorem exec_cbw : exec (.cbw) s = execCbw s := rfl
@[simp] theorem exec_cwd : exec (.cwd) s = execCwd s := rfl
@[simp] theorem exec_wait : exec (.wait) s = execWait s := rfl
@[simp] theorem exec_pushf : exec (.pushf) s = execPushf s := rfl
@[simp] theorem exec_popf : exec (.popf) s = execPopf s := rfl
@[simp] theorem exec_sahf : exec (.sahf) s = execSahf s := rfl
@[simp] theorem exec_lahf : exec (.lahf) s = execLahf s := rfl
@[simp] theorem exec_movsB : exec (.movsB) s = execMovsB s := rfl
@[simp] theorem exec_movsV : exec (.movsV) s = execMovsV s := rfl
@[simp] theorem exec_cmpsB : exec (.cmpsB) s = execCmpsB s := rfl
@[simp] theorem exec_cmpsV : exec (.cmpsV) s = execCmpsV s := rfl
@[simp] theorem exec_stosB : exec (.stosB) s = execStosB s := rfl
@[simp] theorem exec_stosV : exec (.stosV) s = execStosV s := rfl
@[simp] theorem exec_lodsB : exec (.lodsB) s = execLodsB s := rfl
@[simp] theorem exec_lodsV : exec (.lodsV) s = execLodsV s := rfl
@[simp] theorem exec_scasB : exec (.scasB) s = execScasB s := rfl
@[simp] theorem exec_scasV : exec (.scasV) s = execScasV s := rfl
@[simp] theorem exec_retNear : exec (.retNear) s = execRetNear s := rfl
@[simp] theorem exec_leave : exec (.leave) s = execLeave s := rfl
@[simp] theorem exec_retFar : exec (.retFar) s = execRetFar s := rfl
@[simp] theorem exec_int3 : exec (.int3) s = execInt3 s := rfl
@[simp] theorem exec_into : exec (.into) s = execInto s := rfl
@[simp] theorem exec_iret : exec (.iret) s = execIret s := rfl
@[simp] theorem exec_xlat : exec (.xlat) s = execXlat s := rfl
@[simp] theorem exec_inAlDx : exec (.inAlDx) s = execInAlDx s := rfl
@[simp] theorem exec_inEaxDx : exec (.inEaxDx) s = execInEaxDx s := rfl
@[simp] theorem exec_outDxAl : exec (.outDxAl) s = execOutDxAl s := rfl
@[simp] theorem exec_outDxEax : exec (.outDxEax) s = execOutDxEax s := rfl
@[simp] theorem exec_hlt : exec (.hlt) s = execHlt s := rfl
@[simp] theorem exec_cmc : exec (.cmc) s = execCmc s := rfl
@[simp] theorem exec_clc : exec (.clc) s = execClc s := rfl
@[simp] theorem exec_stc : exec (.stc) s = execStc s := rfl
@[simp] theorem exec_cli : exec (.cli) s = execCli s := rfl
@[simp] theorem exec_sti : exec (.sti) s = execSti s := rfl
@[simp] theorem exec_cld : exec (.cld) s = execCld s := rfl
@[simp] theorem exec_std : exec (.std) s = execStd s := rfl
@[simp] theorem exec_clts : exec (.clts) s = execClts s := rfl

end Sys2Proof.Machine
end

