-- ==== Sys2Proof/Laws/Ops.lean ====
section
/-! SUPPORT. Laws/Ops.lean: all that the stack, a segment load, running a meaning and taking an event can do. -/

namespace Sys2Proof.Machine

/-! ### Checks and sequences -/

/-- A sequence answers only where both of its parts do. -/
theorem Res.bind_ok {α β : Type} {x : Res α} {f : α → Res β} {b : β} (h : (x >>= f) = .ok b) :
    ∃ a, x = .ok a ∧ f a = .ok b := by
  cases x with
  | error e => cases h
  | ok a => exact ⟨a, rfl, h⟩

/-- A check passes exactly where its condition holds. -/
theorem need_ok {c : Bool} {e : Exc} {u : Unit} : need c e = .ok u ↔ c = true := by
  cases c <;> simp [need, raise]

/-- A check that is passed drops out of a sequence. -/
theorem need_bind {α : Type} {c : Bool} {e : Exc} (f : Unit → Res α) (h : c = true) : (need c e >>= f) = f () := by
  subst h; rfl

/-- A store of bytes keeps the canonical form of memory. -/
theorem State.linWriteBytes_wf {s t : State} {b : Bool} {lin : BitVec 32} {bs : List Byte} (hw : s.mem.wf = true)
    (h : s.linWriteBytes b lin bs = .ok t) : t.mem.wf = true := by
  obtain ⟨ps, -, rfl⟩ := State.linWriteBytes_ok h
  exact memSetBytes_wf hw ps bs

/-- A store through a segment register keeps the canonical form of memory. -/
theorem State.memWrite_wf {s t : State} {r : SReg} {w : Width} {off : BitVec 32} {v : BitVec w.bits}
    (hw : s.mem.wf = true) (h : s.memWrite r w off v = .ok t) : t.mem.wf = true := by
  obtain ⟨-, ps, -, rfl⟩ := State.memWrite_ok h
  exact memSetBytes_wf hw ps _

/-- Memory after reset has the canonical form. -/
theorem State.reset_mem_wf : (Memory.wf State.reset.mem) = true := rfl

/-! ### The stack -/

/-- All that a push can do: it stores its item below the stack pointer, then moves the stack pointer there. -/
theorem State.push_ok {s t : State} {size : Size} {v : BitVec 32} (h : s.push size v = .ok t) :
    ∃ u, s.memWrite .ss size.width (s.pushOffset size.bytes) (v.setWidth _) = .ok u ∧
      t = u.setEReg s.stackSize .esp (s.pushOffset size.bytes) := by
  unfold State.push at h
  split at h
  · cases h
  · next u hu => exact ⟨u, hu, by cases h; rfl⟩

/-- A push keeps the canonical form of memory. -/
theorem State.push_wf {s t : State} {size : Size} {v : BitVec 32} (hw : s.mem.wf = true)
    (h : s.push size v = .ok t) : t.mem.wf = true := by
  obtain ⟨u, hu, rfl⟩ := State.push_ok h
  exact State.memWrite_wf (t := u) hw hu

/-- The check of one pushed item passes exactly where the item straddles no stack top and lies in the segment. -/
theorem State.pushCheck_ok {s : State} {size : Size} {k : Nat} {u : Unit} : s.pushCheck size k = .ok u ↔
    s.pushWraps size k = false ∧ s.accessOk .ss (s.pushOffset (k * size.bytes)) size.bytes true = true := by
  unfold State.pushCheck
  cases h : s.pushWraps size k
  · simp [need_ok]
  · simp

/-- The whole check of pushed items passes exactly where that of each does. -/
theorem State.pushChecks_ok {s : State} {size : Size} {n : Nat} {u : Unit} : s.pushChecks size n = .ok u ↔
    ∀ k, 1 ≤ k → k ≤ n →
      s.pushWraps size k = false ∧ s.accessOk .ss (s.pushOffset (k * size.bytes)) size.bytes true = true := by
  induction n with
  | zero => exact ⟨fun _ k h1 h2 => by omega, fun _ => rfl⟩
  | succ n ih =>
    unfold State.pushChecks
    constructor
    · intro h
      split at h
      · cases h
      · next hn =>
        intro k h1 h2
        obtain h3 | rfl : k ≤ n ∨ k = n + 1 := by omega
        · exact ih.1 hn k h1 h3
        · exact State.pushCheck_ok.1 h
    · intro h
      rw [ih.2 fun k h1 h2 => h k h1 (by omega)]
      exact State.pushCheck_ok.2 (h (n + 1) (by omega) (by omega))

/-- A push that can shut the machine down does what a push does where it answers. -/
theorem State.pushOrShutdown_ok {s t : State} {size : Size} {v : BitVec 32} (h : s.pushOrShutdown size v = .ok t) :
    s.push size v = .ok t := by
  unfold State.pushOrShutdown at h
  split at h
  · cases h
  · exact h

/-- All that a pop can do: it reads the item at the top and moves the stack pointer past it. -/
theorem State.pop_ok {s t : State} {size : Size} {v : BitVec 32} (h : s.pop size = .ok (v, t)) :
    s.stackItem size 0 = .ok v ∧ t = s.dropStack (BitVec.ofNat 32 size.bytes) := by
  unfold State.pop at h
  split at h
  · cases h
  · next hv => cases h; exact ⟨hv, rfl⟩

/-- Padding a word to a stack item changes nothing but the number of free values taken. -/
theorem State.padWord_mem (s : State) (size : Size) (sel : BitVec 16) : (s.padWord size sel).2.mem = s.mem := by
  cases size <;> rfl

/-- A push of a padded word keeps the canonical form of memory. -/
theorem State.pushWord_wf {s t : State} {size : Size} {sel : BitVec 16} (hw : s.mem.wf = true)
    (h : s.pushWord size sel = .ok t) : t.mem.wf = true :=
  State.push_wf (by rw [State.padWord_mem]; exact hw) h

/-- Pushing a list of items keeps the canonical form of memory. -/
theorem State.pushList_wf {size : Size} (l : List (BitVec 32)) {s t : State} (hw : s.mem.wf = true)
    (h : s.pushList size l = .ok t) : t.mem.wf = true := by
  induction l generalizing s with
  | nil => cases h; exact hw
  | cons v l ih =>
    unfold State.pushList at h
    split at h
    · cases h
    · next u hu => exact ih (State.push_wf hw hu) h

/-- Copying the parameters of a call gate keeps the canonical form of memory. -/
theorem State.copyParams_wf {old : State} {size : Size} (n : Nat) {s t : State} (hw : s.mem.wf = true)
    (h : old.copyParams size n s = .ok t) : t.mem.wf = true := by
  induction n generalizing s with
  | zero => cases h; exact hw
  | succ n ih =>
    unfold State.copyParams at h
    split at h
    · cases h
    · split at h
      · cases h
      · next u hu => exact ih (State.push_wf hw hu) h

/-! ### Segment loads -/

/-- All that loading a segment register can do: its checks pass, and it alone changes. -/
theorem State.loadSeg_ok {s t : State} {r : SReg} {sel : BitVec 16} (h : s.loadSeg r sel = .ok t) :
    ∃ g, s.checkSeg r sel = .ok g ∧ t = s.setSeg r g := by
  unfold State.loadSeg at h
  split at h
  · cases h
  · next g hg => exact ⟨g, hg, by cases h; rfl⟩

/-- Outside Protected Mode every selector can be loaded (R99). -/
theorem State.loadSeg_real {s : State} (r : SReg) (sel : BitVec 16) (h : s.protectedMode = false) :
    s.loadSeg r sel = .ok (s.setSeg r (SegReg.real sel)) := by
  simp [State.loadSeg, State.checkSeg, h]

/-! ### Running a meaning -/

/-- All that settling a meaning can do where it answers: the body's state, a shutdown, or the delivery of the exception
from the state the instruction restarts from (R471). -/
theorem State.settle_next {s t : State} {r : Res State} (h : s.settle r = .next t) :
    r = .ok t ∨ (r = .error .shutdown ∧ t = s.restart.shutDown) ∨
      ∃ x, r = .error (.exc x) ∧ (s.restart.loadCr2 x).deliver deliverFuel x.event = .next t := by
  unfold State.settle at h
  split at h
  · cases h; exact .inl rfl
  · cases h; exact .inr (.inl ⟨rfl, rfl⟩)
  · cases h
  · cases h
  · next x => exact .inr (.inr ⟨x, rfl, h⟩)

/-- All that running a meaning can do where it answers: its body ran under an allowed prefix, or it ended in a shutdown
or an exception. -/
theorem perform_next {rule : GroupRule} {s t : State} {body : State → Res State} (h : perform rule s body = .next t) :
    (rule.allows s.seq.pfx.group = true ∧ body s = .ok t) ∨ t = s.restart.shutDown ∨
      ∃ x, (s.restart.loadCr2 x).deliver deliverFuel x.event = .next t := by
  obtain h | ⟨-, h⟩ | ⟨x, -, h⟩ := State.settle_next h
  · split at h
    · next ha => exact .inl ⟨ha, h⟩
    · cases h
  · exact .inr (.inl h)
  · exact .inr (.inr ⟨x, h⟩)

/-- A prefix that the instruction does not take raises #UD (R343, R408). -/
theorem perform_ud {rule : GroupRule} {s : State} {body : State → Res State}
    (h : rule.allows s.seq.pfx.group = false) :
    perform rule s body = s.restart.deliver deliverFuel excUD.event := by
  simp only [perform, h]
  rfl

/-! ### Taking an event -/

/-- All that delivering an event can do where it answers: the entry, a shutdown, or the delivery of the event that its
own exception becomes (R472). -/
theorem State.deliver_next {n : Nat} {s t : State} {e : Event} (h : s.deliver (n + 1) e = .next t) :
    s.enter e = .ok t ∨ t = s.shutDown ∨
      ∃ x e', s.enter e = .error (.exc x) ∧ e.escalate x = some e' ∧ (s.loadCr2 x).deliver n e' = .next t := by
  unfold State.deliver at h
  split at h
  · next u hu => cases h; exact .inl hu
  · cases h; exact .inr (.inl rfl)
  · cases h
  · cases h
  · next x hx =>
    split at h
    · cases h; exact .inr (.inl rfl)
    · next e' he => exact .inr (.inr ⟨x, e', hx, he, h⟩)

/-- An entry whose checks pass is what delivering the event answers. -/
theorem State.deliver_of {n : Nat} {s t : State} {e : Event} (h : s.enter e = .ok t) :
    s.deliver (n + 1) e = .next t := by
  simp [State.deliver, h]

/-- A property that shutting down, recording a fault address and every entry keep is kept by delivering any event. -/
theorem State.deliver_induct (P : State → Prop) (hs : ∀ s, P s → P s.shutDown) (hc : ∀ s x, P s → P (s.loadCr2 x))
    (he : ∀ s e t, P s → s.enter e = .ok t → P t) (n : Nat) {s t : State} {e : Event} (h0 : P s)
    (h : s.deliver n e = .next t) : P t := by
  induction n generalizing s e with
  | zero => cases h; exact hs s h0
  | succ n ih =>
    obtain h | rfl | ⟨x, e', -, -, h⟩ := State.deliver_next h
    · exact he _ _ _ h0 h
    · exact hs _ h0
    · exact ih (hc _ x h0) h

/-- A step is one instruction where no event is taken. -/
theorem step_of_quiet {s : State} (h1 : s.pins.reset = false) (h2 : s.seq.shutdown = false) (h3 : s.takesNmi = false)
    (h4 : s.pins.intr = none ∨ s.takesIntr = false) (h5 : s.seq.halted = false) : step s = s.oneInstr := by
  simp only [step, State.runStep, h1, h2, h3, State.runUnlessHalted, h5]
  cases hi : s.pins.intr with
  | none => rfl
  | some v =>
    obtain h | h := h4
    · rw [hi] at h; cases h
    · simp [h]

end Sys2Proof.Machine
end

