-- ==== Sys2Proof/Tests/Slice0.lean ====
section
/-! SUPPORT. Tests/Slice0.lean: encodings written out from the rules, refusals of ill-formed terms, the spec's examples,
and for each obligation a state that meets its hypotheses. -/

namespace Sys2Proof.Tests

set_option Elab.async false

open Sys2Proof.Machine Sys2Proof.Claims

/-! ### Decoding: every row of the opcode table -/

/-- Size attributes (one for both), the bytes of an instruction, and the instruction. -/
abbrev WordRow := Size × List Byte × Instr

/-- The bytes decode to the instruction. -/
def WordRow.ok (w : WordRow) : Bool := decode w.1 w.1 w.2.1 == .ok w.2.2 []

/-- Rows of the opcode table, with the bytes that R140 to R161 give them (part 1 of 8). -/
def words1 : List WordRow := [
  (.s16, [0x00, 0x57, 0x10], .addRm8R8 (.mem (.a16 .bx (.short 0x10))) .edx),
  (.s32, [0x01, 0xD6], .addRmvRv (.reg .esi) .edx),
  (.s16, [0x02, 0x57, 0x10], .addR8Rm8 .edx (.mem (.a16 .bx (.short 0x10)))),
  (.s32, [0x03, 0x94, 0x4D, 0x44, 0x33, 0x22, 0x11], .addRvRmv .edx (.mem (.sib 1 (some .ecx) .ebp (.full 0x11223344)))),
  (.s16, [0x04, 0x5A], .addAlImm8 0x5A),
  (.s32, [0x05, 0x78, 0x56, 0x34, 0x12], .addEaxImmv (.w32 0x12345678)),
  (.s16, [0x80, 0x47, 0x10, 0x5A], .addRm8Imm8 (.mem (.a16 .bx (.short 0x10))) 0x5A),
  (.s32, [0x81, 0xC6, 0x78, 0x56, 0x34, 0x12], .addRmvImmv (.reg .esi) (.w32 0x12345678)),
  (.s16, [0x83, 0x47, 0x10, 0x5A], .addRmvImm8 (.mem (.a16 .bx (.short 0x10))) 0x5A),
  (.s32, [0x08, 0x94, 0x4D, 0x44, 0x33, 0x22, 0x11], .orRm8R8 (.mem (.sib 1 (some .ecx) .ebp (.full 0x11223344))) .edx),
  (.s16, [0x09, 0xD6], .orRmvRv (.reg .esi) .edx),
  (.s32, [0x0A, 0x94, 0x4D, 0x44, 0x33, 0x22, 0x11], .orR8Rm8 .edx (.mem (.sib 1 (some .ecx) .ebp (.full 0x11223344)))),
  (.s16, [0x0B, 0x57, 0x10], .orRvRmv .edx (.mem (.a16 .bx (.short 0x10)))),
  (.s32, [0x0C, 0x5A], .orAlImm8 0x5A),
  (.s16, [0x0D, 0x34, 0x12], .orEaxImmv (.w16 0x1234)),
  (.s32, [0x80, 0x8C, 0x4D, 0x44, 0x33, 0x22, 0x11, 0x5A], .orRm8Imm8 (.mem (.sib 1 (some .ecx) .ebp (.full 0x11223344))) 0x5A),
  (.s16, [0x81, 0xCE, 0x34, 0x12], .orRmvImmv (.reg .esi) (.w16 0x1234)),
  (.s32, [0x83, 0x8C, 0x4D, 0x44, 0x33, 0x22, 0x11, 0x5A], .orRmvImm8 (.mem (.sib 1 (some .ecx) .ebp (.full 0x11223344))) 0x5A),
  (.s16, [0x10, 0x57, 0x10], .adcRm8R8 (.mem (.a16 .bx (.short 0x10))) .edx),
  (.s32, [0x11, 0xD6], .adcRmvRv (.reg .esi) .edx),
  (.s16, [0x12, 0x57, 0x10], .adcR8Rm8 .edx (.mem (.a16 .bx (.short 0x10)))),
  (.s32, [0x13, 0x94, 0x4D, 0x44, 0x33, 0x22, 0x11], .adcRvRmv .edx (.mem (.sib 1 (some .ecx) .ebp (.full 0x11223344)))),
  (.s16, [0x14, 0x5A], .adcAlImm8 0x5A),
  (.s32, [0x15, 0x78, 0x56, 0x34, 0x12], .adcEaxImmv (.w32 0x12345678)),
  (.s16, [0x80, 0x57, 0x10, 0x5A], .adcRm8Imm8 (.mem (.a16 .bx (.short 0x10))) 0x5A),
  (.s32, [0x81, 0xD6, 0x78, 0x56, 0x34, 0x12], .adcRmvImmv (.reg .esi) (.w32 0x12345678)),
  (.s16, [0x83, 0x57, 0x10, 0x5A], .adcRmvImm8 (.mem (.a16 .bx (.short 0x10))) 0x5A),
  (.s32, [0x18, 0x94, 0x4D, 0x44, 0x33, 0x22, 0x11], .sbbRm8R8 (.mem (.sib 1 (some .ecx) .ebp (.full 0x11223344))) .edx),
  (.s16, [0x19, 0xD6], .sbbRmvRv (.reg .esi) .edx),
  (.s32, [0x1A, 0x94, 0x4D, 0x44, 0x33, 0x22, 0x11], .sbbR8Rm8 .edx (.mem (.sib 1 (some .ecx) .ebp (.full 0x11223344)))),
  (.s16, [0x1B, 0x57, 0x10], .sbbRvRmv .edx (.mem (.a16 .bx (.short 0x10)))),
  (.s32, [0x1C, 0x5A], .sbbAlImm8 0x5A),
  (.s16, [0x1D, 0x34, 0x12], .sbbEaxImmv (.w16 0x1234)),
  (.s32, [0x80, 0x9C, 0x4D, 0x44, 0x33, 0x22, 0x11, 0x5A], .sbbRm8Imm8 (.mem (.sib 1 (some .ecx) .ebp (.full 0x11223344))) 0x5A),
  (.s16, [0x81, 0xDE, 0x34, 0x12], .sbbRmvImmv (.reg .esi) (.w16 0x1234)),
  (.s32, [0x83, 0x9C, 0x4D, 0x44, 0x33, 0x22, 0x11, 0x5A], .sbbRmvImm8 (.mem (.sib 1 (some .ecx) .ebp (.full 0x11223344))) 0x5A),
  (.s16, [0x20, 0x57, 0x10], .andRm8R8 (.mem (.a16 .bx (.short 0x10))) .edx),
  (.s32, [0x21, 0xD6], .andRmvRv (.reg .esi) .edx),
  (.s16, [0x22, 0x57, 0x10], .andR8Rm8 .edx (.mem (.a16 .bx (.short 0x10)))),
  (.s32, [0x23, 0x94, 0x4D, 0x44, 0x33, 0x22, 0x11], .andRvRmv .edx (.mem (.sib 1 (some .ecx) .ebp (.full 0x11223344)))),
  (.s16, [0x24, 0x5A], .andAlImm8 0x5A),
  (.s32, [0x25, 0x78, 0x56, 0x34, 0x12], .andEaxImmv (.w32 0x12345678)),
  (.s16, [0x80, 0x67, 0x10, 0x5A], .andRm8Imm8 (.mem (.a16 .bx (.short 0x10))) 0x5A),
  (.s32, [0x81, 0xE6, 0x78, 0x56, 0x34, 0x12], .andRmvImmv (.reg .esi) (.w32 0x12345678))]

theorem test_words1_decode : words1.all WordRow.ok = true := by decide +kernel

/-- Rows of the opcode table, with the bytes that R140 to R161 give them (part 2 of 8). -/
def words2 : List WordRow := [
  (.s16, [0x83, 0x67, 0x10, 0x5A], .andRmvImm8 (.mem (.a16 .bx (.short 0x10))) 0x5A),
  (.s32, [0x28, 0x94, 0x4D, 0x44, 0x33, 0x22, 0x11], .subRm8R8 (.mem (.sib 1 (some .ecx) .ebp (.full 0x11223344))) .edx),
  (.s16, [0x29, 0xD6], .subRmvRv (.reg .esi) .edx),
  (.s32, [0x2A, 0x94, 0x4D, 0x44, 0x33, 0x22, 0x11], .subR8Rm8 .edx (.mem (.sib 1 (some .ecx) .ebp (.full 0x11223344)))),
  (.s16, [0x2B, 0x57, 0x10], .subRvRmv .edx (.mem (.a16 .bx (.short 0x10)))),
  (.s32, [0x2C, 0x5A], .subAlImm8 0x5A),
  (.s16, [0x2D, 0x34, 0x12], .subEaxImmv (.w16 0x1234)),
  (.s32, [0x80, 0xAC, 0x4D, 0x44, 0x33, 0x22, 0x11, 0x5A], .subRm8Imm8 (.mem (.sib 1 (some .ecx) .ebp (.full 0x11223344))) 0x5A),
  (.s16, [0x81, 0xEE, 0x34, 0x12], .subRmvImmv (.reg .esi) (.w16 0x1234)),
  (.s32, [0x83, 0xAC, 0x4D, 0x44, 0x33, 0x22, 0x11, 0x5A], .subRmvImm8 (.mem (.sib 1 (some .ecx) .ebp (.full 0x11223344))) 0x5A),
  (.s16, [0x30, 0x57, 0x10], .xorRm8R8 (.mem (.a16 .bx (.short 0x10))) .edx),
  (.s32, [0x31, 0xD6], .xorRmvRv (.reg .esi) .edx),
  (.s16, [0x32, 0x57, 0x10], .xorR8Rm8 .edx (.mem (.a16 .bx (.short 0x10)))),
  (.s32, [0x33, 0x94, 0x4D, 0x44, 0x33, 0x22, 0x11], .xorRvRmv .edx (.mem (.sib 1 (some .ecx) .ebp (.full 0x11223344)))),
  (.s16, [0x34, 0x5A], .xorAlImm8 0x5A),
  (.s32, [0x35, 0x78, 0x56, 0x34, 0x12], .xorEaxImmv (.w32 0x12345678)),
  (.s16, [0x80, 0x77, 0x10, 0x5A], .xorRm8Imm8 (.mem (.a16 .bx (.short 0x10))) 0x5A),
  (.s32, [0x81, 0xF6, 0x78, 0x56, 0x34, 0x12], .xorRmvImmv (.reg .esi) (.w32 0x12345678)),
  (.s16, [0x83, 0x77, 0x10, 0x5A], .xorRmvImm8 (.mem (.a16 .bx (.short 0x10))) 0x5A),
  (.s32, [0x38, 0x94, 0x4D, 0x44, 0x33, 0x22, 0x11], .cmpRm8R8 (.mem (.sib 1 (some .ecx) .ebp (.full 0x11223344))) .edx),
  (.s16, [0x39, 0xD6], .cmpRmvRv (.reg .esi) .edx),
  (.s32, [0x3A, 0x94, 0x4D, 0x44, 0x33, 0x22, 0x11], .cmpR8Rm8 .edx (.mem (.sib 1 (some .ecx) .ebp (.full 0x11223344)))),
  (.s16, [0x3B, 0x57, 0x10], .cmpRvRmv .edx (.mem (.a16 .bx (.short 0x10)))),
  (.s32, [0x3C, 0x5A], .cmpAlImm8 0x5A),
  (.s16, [0x3D, 0x34, 0x12], .cmpEaxImmv (.w16 0x1234)),
  (.s32, [0x80, 0xBC, 0x4D, 0x44, 0x33, 0x22, 0x11, 0x5A], .cmpRm8Imm8 (.mem (.sib 1 (some .ecx) .ebp (.full 0x11223344))) 0x5A),
  (.s16, [0x81, 0xFE, 0x34, 0x12], .cmpRmvImmv (.reg .esi) (.w16 0x1234)),
  (.s32, [0x83, 0xBC, 0x4D, 0x44, 0x33, 0x22, 0x11, 0x5A], .cmpRmvImm8 (.mem (.sib 1 (some .ecx) .ebp (.full 0x11223344))) 0x5A),
  (.s16, [0x06], .pushEs),
  (.s32, [0x0E], .pushCs),
  (.s16, [0x16], .pushSs),
  (.s32, [0x1E], .pushDs),
  (.s16, [0x07], .popEs),
  (.s32, [0x17], .popSs),
  (.s16, [0x1F], .popDs),
  (.s32, [0x0F, 0xA0], .pushFs),
  (.s16, [0x0F, 0xA1], .popFs),
  (.s32, [0x0F, 0xA8], .pushGs),
  (.s16, [0x0F, 0xA9], .popGs),
  (.s32, [0x26], .segEs),
  (.s16, [0x2E], .segCs),
  (.s32, [0x36], .segSs),
  (.s16, [0x3E], .segDs),
  (.s32, [0x64], .segFs)]

theorem test_words2_decode : words2.all WordRow.ok = true := by decide +kernel

/-- Rows of the opcode table, with the bytes that R140 to R161 give them (part 3 of 8). -/
def words3 : List WordRow := [
  (.s16, [0x65], .segGs),
  (.s32, [0x66], .opsize),
  (.s16, [0x67], .addrsize),
  (.s32, [0xF0], .lock),
  (.s16, [0xF2], .repne),
  (.s32, [0xF3], .rep),
  (.s16, [0x27], .daa),
  (.s32, [0x2F], .das),
  (.s16, [0x37], .aaa),
  (.s32, [0x3F], .aas),
  (.s16, [0xD4, 0x0A], .aam 0x0A),
  (.s32, [0xD5, 0x0A], .aad 0x0A),
  (.s16, [0x43], .incRv .ebx),
  (.s32, [0x4B], .decRv .ebx),
  (.s16, [0x53], .pushRv .ebx),
  (.s32, [0x5B], .popRv .ebx),
  (.s16, [0x60], .pusha),
  (.s32, [0x61], .popa),
  (.s16, [0x62, 0x57, 0x10], .bound .edx (.mem (.a16 .bx (.short 0x10)))),
  (.s32, [0x63, 0x94, 0x4D, 0x44, 0x33, 0x22, 0x11], .arpl (.mem (.sib 1 (some .ecx) .ebp (.full 0x11223344))) .edx),
  (.s16, [0x68, 0x34, 0x12], .pushImmv (.w16 0x1234)),
  (.s32, [0x69, 0xD6, 0x78, 0x56, 0x34, 0x12], .imulRvRmvImmv .edx (.reg .esi) (.w32 0x12345678)),
  (.s16, [0x6A, 0x5A], .pushImm8 0x5A),
  (.s32, [0x6B, 0x94, 0x4D, 0x44, 0x33, 0x22, 0x11, 0x5A], .imulRvRmvImm8 .edx (.mem (.sib 1 (some .ecx) .ebp (.full 0x11223344))) 0x5A),
  (.s16, [0x6C], .insB),
  (.s32, [0x6D], .insV),
  (.s16, [0x6E], .outsB),
  (.s32, [0x6F], .outsV),
  (.s16, [0x70, 0xF0], .jo (.short 0xF0)),
  (.s32, [0x71, 0xF0], .jno (.short 0xF0)),
  (.s16, [0x72, 0xF0], .jb (.short 0xF0)),
  (.s32, [0x73, 0xF0], .jnb (.short 0xF0)),
  (.s16, [0x74, 0xF0], .jz (.short 0xF0)),
  (.s32, [0x75, 0xF0], .jnz (.short 0xF0)),
  (.s16, [0x76, 0xF0], .jbe (.short 0xF0)),
  (.s32, [0x77, 0xF0], .jnbe (.short 0xF0)),
  (.s16, [0x78, 0xF0], .js (.short 0xF0)),
  (.s32, [0x79, 0xF0], .jns (.short 0xF0)),
  (.s16, [0x7A, 0xF0], .jp (.short 0xF0)),
  (.s32, [0x7B, 0xF0], .jnp (.short 0xF0)),
  (.s16, [0x7C, 0xF0], .jl (.short 0xF0)),
  (.s32, [0x7D, 0xF0], .jnl (.short 0xF0)),
  (.s16, [0x7E, 0xF0], .jle (.short 0xF0)),
  (.s32, [0x7F, 0xF0], .jnle (.short 0xF0))]

theorem test_words3_decode : words3.all WordRow.ok = true := by decide +kernel

/-- Rows of the opcode table, with the bytes that R140 to R161 give them (part 4 of 8). -/
def words4 : List WordRow := [
  (.s16, [0x0F, 0x80, 0x34, 0x12], .jo (.near (.w16 0x1234))),
  (.s32, [0x0F, 0x81, 0x78, 0x56, 0x34, 0x12], .jno (.near (.w32 0x12345678))),
  (.s16, [0x0F, 0x82, 0x34, 0x12], .jb (.near (.w16 0x1234))),
  (.s32, [0x0F, 0x83, 0x78, 0x56, 0x34, 0x12], .jnb (.near (.w32 0x12345678))),
  (.s16, [0x0F, 0x84, 0x34, 0x12], .jz (.near (.w16 0x1234))),
  (.s32, [0x0F, 0x85, 0x78, 0x56, 0x34, 0x12], .jnz (.near (.w32 0x12345678))),
  (.s16, [0x0F, 0x86, 0x34, 0x12], .jbe (.near (.w16 0x1234))),
  (.s32, [0x0F, 0x87, 0x78, 0x56, 0x34, 0x12], .jnbe (.near (.w32 0x12345678))),
  (.s16, [0x0F, 0x88, 0x34, 0x12], .js (.near (.w16 0x1234))),
  (.s32, [0x0F, 0x89, 0x78, 0x56, 0x34, 0x12], .jns (.near (.w32 0x12345678))),
  (.s16, [0x0F, 0x8A, 0x34, 0x12], .jp (.near (.w16 0x1234))),
  (.s32, [0x0F, 0x8B, 0x78, 0x56, 0x34, 0x12], .jnp (.near (.w32 0x12345678))),
  (.s16, [0x0F, 0x8C, 0x34, 0x12], .jl (.near (.w16 0x1234))),
  (.s32, [0x0F, 0x8D, 0x78, 0x56, 0x34, 0x12], .jnl (.near (.w32 0x12345678))),
  (.s16, [0x0F, 0x8E, 0x34, 0x12], .jle (.near (.w16 0x1234))),
  (.s32, [0x0F, 0x8F, 0x78, 0x56, 0x34, 0x12], .jnle (.near (.w32 0x12345678))),
  (.s16, [0x0F, 0x90, 0xD6], .seto (.reg .esi)),
  (.s32, [0x0F, 0x91, 0x94, 0x4D, 0x44, 0x33, 0x22, 0x11], .setno (.mem (.sib 1 (some .ecx) .ebp (.full 0x11223344)))),
  (.s16, [0x0F, 0x92, 0x57, 0x10], .setb (.mem (.a16 .bx (.short 0x10)))),
  (.s32, [0x0F, 0x93, 0xD6], .setnb (.reg .esi)),
  (.s16, [0x0F, 0x94, 0x57, 0x10], .setz (.mem (.a16 .bx (.short 0x10)))),
  (.s32, [0x0F, 0x95, 0x94, 0x4D, 0x44, 0x33, 0x22, 0x11], .setnz (.mem (.sib 1 (some .ecx) .ebp (.full 0x11223344)))),
  (.s16, [0x0F, 0x96, 0xD6], .setbe (.reg .esi)),
  (.s32, [0x0F, 0x97, 0x94, 0x4D, 0x44, 0x33, 0x22, 0x11], .setnbe (.mem (.sib 1 (some .ecx) .ebp (.full 0x11223344)))),
  (.s16, [0x0F, 0x98, 0x57, 0x10], .sets (.mem (.a16 .bx (.short 0x10)))),
  (.s32, [0x0F, 0x99, 0xD6], .setns (.reg .esi)),
  (.s16, [0x0F, 0x9A, 0x57, 0x10], .setp (.mem (.a16 .bx (.short 0x10)))),
  (.s32, [0x0F, 0x9B, 0x94, 0x4D, 0x44, 0x33, 0x22, 0x11], .setnp (.mem (.sib 1 (some .ecx) .ebp (.full 0x11223344)))),
  (.s16, [0x0F, 0x9C, 0xD6], .setl (.reg .esi)),
  (.s32, [0x0F, 0x9D, 0x94, 0x4D, 0x44, 0x33, 0x22, 0x11], .setnl (.mem (.sib 1 (some .ecx) .ebp (.full 0x11223344)))),
  (.s16, [0x0F, 0x9E, 0x57, 0x10], .setle (.mem (.a16 .bx (.short 0x10)))),
  (.s32, [0x0F, 0x9F, 0xD6], .setnle (.reg .esi)),
  (.s16, [0x84, 0x57, 0x10], .testRm8R8 (.mem (.a16 .bx (.short 0x10))) .edx),
  (.s32, [0x85, 0x94, 0x4D, 0x44, 0x33, 0x22, 0x11], .testRmvRv (.mem (.sib 1 (some .ecx) .ebp (.full 0x11223344))) .edx),
  (.s16, [0x86, 0xD6], .xchgRm8R8 (.reg .esi) .edx),
  (.s32, [0x87, 0x94, 0x4D, 0x44, 0x33, 0x22, 0x11], .xchgRmvRv (.mem (.sib 1 (some .ecx) .ebp (.full 0x11223344))) .edx),
  (.s16, [0x88, 0x57, 0x10], .movRm8R8 (.mem (.a16 .bx (.short 0x10))) .edx),
  (.s32, [0x89, 0xD6], .movRmvRv (.reg .esi) .edx),
  (.s16, [0x8A, 0x57, 0x10], .movR8Rm8 .edx (.mem (.a16 .bx (.short 0x10)))),
  (.s32, [0x8B, 0x94, 0x4D, 0x44, 0x33, 0x22, 0x11], .movRvRmv .edx (.mem (.sib 1 (some .ecx) .ebp (.full 0x11223344)))),
  (.s16, [0x8C, 0xD6], .movRmSreg (.reg .esi) 2),
  (.s32, [0x8D, 0x94, 0x4D, 0x44, 0x33, 0x22, 0x11], .lea .edx (.mem (.sib 1 (some .ecx) .ebp (.full 0x11223344)))),
  (.s16, [0x8E, 0x57, 0x10], .movSregRm 2 (.mem (.a16 .bx (.short 0x10)))),
  (.s32, [0x8F, 0xC6], .popRmv (.reg .esi))]

theorem test_words4_decode : words4.all WordRow.ok = true := by decide +kernel

/-- Rows of the opcode table, with the bytes that R140 to R161 give them (part 5 of 8). -/
def words5 : List WordRow := [
  (.s16, [0x90], .nop),
  (.s32, [0x93], .xchgEaxRv .ebx),
  (.s16, [0x98], .cbw),
  (.s32, [0x99], .cwd),
  (.s16, [0x9A, 0x34, 0x12, 0x08, 0x00], .callFar (.w16 0x1234) 8),
  (.s32, [0x9B], .wait),
  (.s16, [0x9C], .pushf),
  (.s32, [0x9D], .popf),
  (.s16, [0x9E], .sahf),
  (.s32, [0x9F], .lahf),
  (.s16, [0xA0, 0x34, 0x12], .movAlMoffs (.w16 0x1234)),
  (.s32, [0xA1, 0x78, 0x56, 0x34, 0x12], .movEaxMoffs (.w32 0x12345678)),
  (.s16, [0xA2, 0x34, 0x12], .movMoffsAl (.w16 0x1234)),
  (.s32, [0xA3, 0x78, 0x56, 0x34, 0x12], .movMoffsEax (.w32 0x12345678)),
  (.s16, [0xA4], .movsB),
  (.s32, [0xA5], .movsV),
  (.s16, [0xA6], .cmpsB),
  (.s32, [0xA7], .cmpsV),
  (.s16, [0xA8, 0x5A], .testAlImm8 0x5A),
  (.s32, [0xA9, 0x78, 0x56, 0x34, 0x12], .testEaxImmv (.w32 0x12345678)),
  (.s16, [0xAA], .stosB),
  (.s32, [0xAB], .stosV),
  (.s16, [0xAC], .lodsB),
  (.s32, [0xAD], .lodsV),
  (.s16, [0xAE], .scasB),
  (.s32, [0xAF], .scasV),
  (.s16, [0xB3, 0x5A], .movR8Imm8 .ebx 0x5A),
  (.s32, [0xBB, 0x78, 0x56, 0x34, 0x12], .movRvImmv .ebx (.w32 0x12345678)),
  (.s16, [0xC0, 0x47, 0x10, 0x5A], .rolRm8 (.mem (.a16 .bx (.short 0x10))) (.imm 0x5A)),
  (.s32, [0xC1, 0xC6, 0x5A], .rolRmv (.reg .esi) (.imm 0x5A)),
  (.s16, [0xD0, 0x47, 0x10], .rolRm8 (.mem (.a16 .bx (.short 0x10))) .one),
  (.s32, [0xD1, 0x84, 0x4D, 0x44, 0x33, 0x22, 0x11], .rolRmv (.mem (.sib 1 (some .ecx) .ebp (.full 0x11223344))) .one),
  (.s16, [0xD2, 0xC6], .rolRm8 (.reg .esi) .cl),
  (.s32, [0xD3, 0x84, 0x4D, 0x44, 0x33, 0x22, 0x11], .rolRmv (.mem (.sib 1 (some .ecx) .ebp (.full 0x11223344))) .cl),
  (.s16, [0xC0, 0x4F, 0x10, 0x5A], .rorRm8 (.mem (.a16 .bx (.short 0x10))) (.imm 0x5A)),
  (.s32, [0xC1, 0xCE, 0x5A], .rorRmv (.reg .esi) (.imm 0x5A)),
  (.s16, [0xD0, 0x4F, 0x10], .rorRm8 (.mem (.a16 .bx (.short 0x10))) .one),
  (.s32, [0xD1, 0x8C, 0x4D, 0x44, 0x33, 0x22, 0x11], .rorRmv (.mem (.sib 1 (some .ecx) .ebp (.full 0x11223344))) .one),
  (.s16, [0xD2, 0xCE], .rorRm8 (.reg .esi) .cl),
  (.s32, [0xD3, 0x8C, 0x4D, 0x44, 0x33, 0x22, 0x11], .rorRmv (.mem (.sib 1 (some .ecx) .ebp (.full 0x11223344))) .cl),
  (.s16, [0xC0, 0x57, 0x10, 0x5A], .rclRm8 (.mem (.a16 .bx (.short 0x10))) (.imm 0x5A)),
  (.s32, [0xC1, 0xD6, 0x5A], .rclRmv (.reg .esi) (.imm 0x5A)),
  (.s16, [0xD0, 0x57, 0x10], .rclRm8 (.mem (.a16 .bx (.short 0x10))) .one),
  (.s32, [0xD1, 0x94, 0x4D, 0x44, 0x33, 0x22, 0x11], .rclRmv (.mem (.sib 1 (some .ecx) .ebp (.full 0x11223344))) .one)]

theorem test_words5_decode : words5.all WordRow.ok = true := by decide +kernel

/-- Rows of the opcode table, with the bytes that R140 to R161 give them (part 6 of 8). -/
def words6 : List WordRow := [
  (.s16, [0xD2, 0xD6], .rclRm8 (.reg .esi) .cl),
  (.s32, [0xD3, 0x94, 0x4D, 0x44, 0x33, 0x22, 0x11], .rclRmv (.mem (.sib 1 (some .ecx) .ebp (.full 0x11223344))) .cl),
  (.s16, [0xC0, 0x5F, 0x10, 0x5A], .rcrRm8 (.mem (.a16 .bx (.short 0x10))) (.imm 0x5A)),
  (.s32, [0xC1, 0xDE, 0x5A], .rcrRmv (.reg .esi) (.imm 0x5A)),
  (.s16, [0xD0, 0x5F, 0x10], .rcrRm8 (.mem (.a16 .bx (.short 0x10))) .one),
  (.s32, [0xD1, 0x9C, 0x4D, 0x44, 0x33, 0x22, 0x11], .rcrRmv (.mem (.sib 1 (some .ecx) .ebp (.full 0x11223344))) .one),
  (.s16, [0xD2, 0xDE], .rcrRm8 (.reg .esi) .cl),
  (.s32, [0xD3, 0x9C, 0x4D, 0x44, 0x33, 0x22, 0x11], .rcrRmv (.mem (.sib 1 (some .ecx) .ebp (.full 0x11223344))) .cl),
  (.s16, [0xC0, 0x67, 0x10, 0x5A], .shlRm8 (.mem (.a16 .bx (.short 0x10))) (.imm 0x5A)),
  (.s32, [0xC1, 0xE6, 0x5A], .shlRmv (.reg .esi) (.imm 0x5A)),
  (.s16, [0xD0, 0x67, 0x10], .shlRm8 (.mem (.a16 .bx (.short 0x10))) .one),
  (.s32, [0xD1, 0xA4, 0x4D, 0x44, 0x33, 0x22, 0x11], .shlRmv (.mem (.sib 1 (some .ecx) .ebp (.full 0x11223344))) .one),
  (.s16, [0xD2, 0xE6], .shlRm8 (.reg .esi) .cl),
  (.s32, [0xD3, 0xA4, 0x4D, 0x44, 0x33, 0x22, 0x11], .shlRmv (.mem (.sib 1 (some .ecx) .ebp (.full 0x11223344))) .cl),
  (.s16, [0xC0, 0x6F, 0x10, 0x5A], .shrRm8 (.mem (.a16 .bx (.short 0x10))) (.imm 0x5A)),
  (.s32, [0xC1, 0xEE, 0x5A], .shrRmv (.reg .esi) (.imm 0x5A)),
  (.s16, [0xD0, 0x6F, 0x10], .shrRm8 (.mem (.a16 .bx (.short 0x10))) .one),
  (.s32, [0xD1, 0xAC, 0x4D, 0x44, 0x33, 0x22, 0x11], .shrRmv (.mem (.sib 1 (some .ecx) .ebp (.full 0x11223344))) .one),
  (.s16, [0xD2, 0xEE], .shrRm8 (.reg .esi) .cl),
  (.s32, [0xD3, 0xAC, 0x4D, 0x44, 0x33, 0x22, 0x11], .shrRmv (.mem (.sib 1 (some .ecx) .ebp (.full 0x11223344))) .cl),
  (.s16, [0xC0, 0x7F, 0x10, 0x5A], .sarRm8 (.mem (.a16 .bx (.short 0x10))) (.imm 0x5A)),
  (.s32, [0xC1, 0xFE, 0x5A], .sarRmv (.reg .esi) (.imm 0x5A)),
  (.s16, [0xD0, 0x7F, 0x10], .sarRm8 (.mem (.a16 .bx (.short 0x10))) .one),
  (.s32, [0xD1, 0xBC, 0x4D, 0x44, 0x33, 0x22, 0x11], .sarRmv (.mem (.sib 1 (some .ecx) .ebp (.full 0x11223344))) .one),
  (.s16, [0xD2, 0xFE], .sarRm8 (.reg .esi) .cl),
  (.s32, [0xD3, 0xBC, 0x4D, 0x44, 0x33, 0x22, 0x11], .sarRmv (.mem (.sib 1 (some .ecx) .ebp (.full 0x11223344))) .cl),
  (.s16, [0xC2, 0x34, 0x12], .retNearImm 0x1234),
  (.s32, [0xC3], .retNear),
  (.s16, [0xC4, 0x57, 0x10], .les .edx (.mem (.a16 .bx (.short 0x10)))),
  (.s32, [0xC5, 0x94, 0x4D, 0x44, 0x33, 0x22, 0x11], .lds .edx (.mem (.sib 1 (some .ecx) .ebp (.full 0x11223344)))),
  (.s16, [0xC6, 0xC6, 0x5A], .movRm8Imm8 (.reg .esi) 0x5A),
  (.s32, [0xC7, 0x84, 0x4D, 0x44, 0x33, 0x22, 0x11, 0x78, 0x56, 0x34, 0x12], .movRmvImmv (.mem (.sib 1 (some .ecx) .ebp (.full 0x11223344))) (.w32 0x12345678)),
  (.s16, [0xC8, 0x34, 0x12, 0x02], .enter 0x1234 2),
  (.s32, [0xC9], .leave),
  (.s16, [0xCA, 0x34, 0x12], .retFarImm 0x1234),
  (.s32, [0xCB], .retFar),
  (.s16, [0xCC], .int3),
  (.s32, [0xCD, 0x5A], .intN 0x5A),
  (.s16, [0xCE], .into),
  (.s32, [0xCF], .iret),
  (.s16, [0xD7], .xlat),
  (.s32, [0xD8, 0x94, 0x4D, 0x44, 0x33, 0x22, 0x11], .esc 0 2 (.mem (.sib 1 (some .ecx) .ebp (.full 0x11223344)))),
  (.s16, [0xE0, 0xF0], .loopneRel8 0xF0),
  (.s32, [0xE1, 0xF0], .loopeRel8 0xF0)]

theorem test_words6_decode : words6.all WordRow.ok = true := by decide +kernel

/-- Rows of the opcode table, with the bytes that R140 to R161 give them (part 7 of 8). -/
def words7 : List WordRow := [
  (.s16, [0xE2, 0xF0], .loopRel8 0xF0),
  (.s32, [0xE3, 0xF0], .jcxzRel8 0xF0),
  (.s16, [0xE4, 0x5A], .inAlImm8 0x5A),
  (.s32, [0xE5, 0x5A], .inEaxImm8 0x5A),
  (.s16, [0xE6, 0x5A], .outImm8Al 0x5A),
  (.s32, [0xE7, 0x5A], .outImm8Eax 0x5A),
  (.s16, [0xE8, 0x34, 0x12], .callRelv (.w16 0x1234)),
  (.s32, [0xE9, 0x78, 0x56, 0x34, 0x12], .jmpRelv (.w32 0x12345678)),
  (.s16, [0xEA, 0x34, 0x12, 0x08, 0x00], .jmpFar (.w16 0x1234) 8),
  (.s32, [0xEB, 0xF0], .jmpRel8 0xF0),
  (.s16, [0xEC], .inAlDx),
  (.s32, [0xED], .inEaxDx),
  (.s16, [0xEE], .outDxAl),
  (.s32, [0xEF], .outDxEax),
  (.s16, [0xF4], .hlt),
  (.s32, [0xF5], .cmc),
  (.s16, [0xF6, 0xC6, 0x5A], .testRm8Imm8 (.reg .esi) 0x5A),
  (.s32, [0xF7, 0x84, 0x4D, 0x44, 0x33, 0x22, 0x11, 0x78, 0x56, 0x34, 0x12], .testRmvImmv (.mem (.sib 1 (some .ecx) .ebp (.full 0x11223344))) (.w32 0x12345678)),
  (.s16, [0xF6, 0x57, 0x10], .notRm8 (.mem (.a16 .bx (.short 0x10)))),
  (.s32, [0xF7, 0xD6], .notRmv (.reg .esi)),
  (.s16, [0xF6, 0x5F, 0x10], .negRm8 (.mem (.a16 .bx (.short 0x10)))),
  (.s32, [0xF7, 0x9C, 0x4D, 0x44, 0x33, 0x22, 0x11], .negRmv (.mem (.sib 1 (some .ecx) .ebp (.full 0x11223344)))),
  (.s16, [0xF6, 0xE6], .mulRm8 (.reg .esi)),
  (.s32, [0xF7, 0xA4, 0x4D, 0x44, 0x33, 0x22, 0x11], .mulRmv (.mem (.sib 1 (some .ecx) .ebp (.full 0x11223344)))),
  (.s16, [0xF6, 0x6F, 0x10], .imulRm8 (.mem (.a16 .bx (.short 0x10)))),
  (.s32, [0xF7, 0xEE], .imulRmv (.reg .esi)),
  (.s16, [0xF6, 0x77, 0x10], .divRm8 (.mem (.a16 .bx (.short 0x10)))),
  (.s32, [0xF7, 0xB4, 0x4D, 0x44, 0x33, 0x22, 0x11], .divRmv (.mem (.sib 1 (some .ecx) .ebp (.full 0x11223344)))),
  (.s16, [0xF6, 0xFE], .idivRm8 (.reg .esi)),
  (.s32, [0xF7, 0xBC, 0x4D, 0x44, 0x33, 0x22, 0x11], .idivRmv (.mem (.sib 1 (some .ecx) .ebp (.full 0x11223344)))),
  (.s16, [0xF8], .clc),
  (.s32, [0xF9], .stc),
  (.s16, [0xFA], .cli),
  (.s32, [0xFB], .sti),
  (.s16, [0xFC], .cld),
  (.s32, [0xFD], .std),
  (.s16, [0xFE, 0x47, 0x10], .incRm8 (.mem (.a16 .bx (.short 0x10)))),
  (.s32, [0xFE, 0xCE], .decRm8 (.reg .esi)),
  (.s16, [0xFF, 0x47, 0x10], .incRmv (.mem (.a16 .bx (.short 0x10)))),
  (.s32, [0xFF, 0x8C, 0x4D, 0x44, 0x33, 0x22, 0x11], .decRmv (.mem (.sib 1 (some .ecx) .ebp (.full 0x11223344)))),
  (.s16, [0xFF, 0xD6], .callRmv (.reg .esi)),
  (.s32, [0xFF, 0x9C, 0x4D, 0x44, 0x33, 0x22, 0x11], .callFarM (.mem (.sib 1 (some .ecx) .ebp (.full 0x11223344)))),
  (.s16, [0xFF, 0x67, 0x10], .jmpRmv (.mem (.a16 .bx (.short 0x10)))),
  (.s32, [0xFF, 0xAC, 0x4D, 0x44, 0x33, 0x22, 0x11], .jmpFarM (.mem (.sib 1 (some .ecx) .ebp (.full 0x11223344))))]

theorem test_words7_decode : words7.all WordRow.ok = true := by decide +kernel

/-- Rows of the opcode table, with the bytes that R140 to R161 give them (part 8 of 8). -/
def words8 : List WordRow := [
  (.s16, [0xFF, 0x77, 0x10], .pushRmv (.mem (.a16 .bx (.short 0x10)))),
  (.s32, [0x0F, 0x00, 0x84, 0x4D, 0x44, 0x33, 0x22, 0x11], .sldt (.mem (.sib 1 (some .ecx) .ebp (.full 0x11223344)))),
  (.s16, [0x0F, 0x00, 0xCE], .str (.reg .esi)),
  (.s32, [0x0F, 0x00, 0x94, 0x4D, 0x44, 0x33, 0x22, 0x11], .lldt (.mem (.sib 1 (some .ecx) .ebp (.full 0x11223344)))),
  (.s16, [0x0F, 0x00, 0x5F, 0x10], .ltr (.mem (.a16 .bx (.short 0x10)))),
  (.s32, [0x0F, 0x00, 0xE6], .verr (.reg .esi)),
  (.s16, [0x0F, 0x00, 0x6F, 0x10], .verw (.mem (.a16 .bx (.short 0x10)))),
  (.s32, [0x0F, 0x01, 0x84, 0x4D, 0x44, 0x33, 0x22, 0x11], .sgdt (.mem (.sib 1 (some .ecx) .ebp (.full 0x11223344)))),
  (.s16, [0x0F, 0x01, 0x4F, 0x10], .sidt (.mem (.a16 .bx (.short 0x10)))),
  (.s32, [0x0F, 0x01, 0x94, 0x4D, 0x44, 0x33, 0x22, 0x11], .lgdt (.mem (.sib 1 (some .ecx) .ebp (.full 0x11223344)))),
  (.s16, [0x0F, 0x01, 0x5F, 0x10], .lidt (.mem (.a16 .bx (.short 0x10)))),
  (.s32, [0x0F, 0x01, 0xE6], .smsw (.reg .esi)),
  (.s16, [0x0F, 0x01, 0x77, 0x10], .lmsw (.mem (.a16 .bx (.short 0x10)))),
  (.s32, [0x0F, 0x02, 0x94, 0x4D, 0x44, 0x33, 0x22, 0x11], .lar .edx (.mem (.sib 1 (some .ecx) .ebp (.full 0x11223344)))),
  (.s16, [0x0F, 0x03, 0xD6], .lsl .edx (.reg .esi)),
  (.s32, [0x0F, 0x06], .clts),
  (.s16, [0x0F, 0x20, 0xD3], .movRCr .ebx 2),
  (.s32, [0x0F, 0x21, 0xD3], .movRDr .ebx 2),
  (.s16, [0x0F, 0x22, 0xD3], .movCrR 2 .ebx),
  (.s32, [0x0F, 0x23, 0xD3], .movDrR 2 .ebx),
  (.s16, [0x0F, 0x24, 0xF3], .movRTr .ebx 6),
  (.s32, [0x0F, 0x26, 0xF3], .movTrR 6 .ebx),
  (.s16, [0x0F, 0xA3, 0x57, 0x10], .btRmvRv (.mem (.a16 .bx (.short 0x10))) .edx),
  (.s32, [0x0F, 0xA4, 0xD6, 0x5A], .shldImm8 (.reg .esi) .edx 0x5A),
  (.s16, [0x0F, 0xA5, 0x57, 0x10], .shldCl (.mem (.a16 .bx (.short 0x10))) .edx),
  (.s32, [0x0F, 0xAB, 0x94, 0x4D, 0x44, 0x33, 0x22, 0x11], .btsRmvRv (.mem (.sib 1 (some .ecx) .ebp (.full 0x11223344))) .edx),
  (.s16, [0x0F, 0xAC, 0xD6, 0x5A], .shrdImm8 (.reg .esi) .edx 0x5A),
  (.s32, [0x0F, 0xAD, 0x94, 0x4D, 0x44, 0x33, 0x22, 0x11], .shrdCl (.mem (.sib 1 (some .ecx) .ebp (.full 0x11223344))) .edx),
  (.s16, [0x0F, 0xAF, 0x57, 0x10], .imulRvRmv .edx (.mem (.a16 .bx (.short 0x10)))),
  (.s32, [0x0F, 0xB2, 0x94, 0x4D, 0x44, 0x33, 0x22, 0x11], .lss .edx (.mem (.sib 1 (some .ecx) .ebp (.full 0x11223344)))),
  (.s16, [0x0F, 0xB3, 0x57, 0x10], .btrRmvRv (.mem (.a16 .bx (.short 0x10))) .edx),
  (.s32, [0x0F, 0xB4, 0x94, 0x4D, 0x44, 0x33, 0x22, 0x11], .lfs .edx (.mem (.sib 1 (some .ecx) .ebp (.full 0x11223344)))),
  (.s16, [0x0F, 0xB5, 0x57, 0x10], .lgs .edx (.mem (.a16 .bx (.short 0x10)))),
  (.s32, [0x0F, 0xB6, 0x94, 0x4D, 0x44, 0x33, 0x22, 0x11], .movzxRm8 .edx (.mem (.sib 1 (some .ecx) .ebp (.full 0x11223344)))),
  (.s16, [0x0F, 0xB7, 0x57, 0x10], .movzxRm16 .edx (.mem (.a16 .bx (.short 0x10)))),
  (.s32, [0x0F, 0xBA, 0xE6, 0x5A], .btRmvImm8 (.reg .esi) 0x5A),
  (.s16, [0x0F, 0xBA, 0x6F, 0x10, 0x5A], .btsRmvImm8 (.mem (.a16 .bx (.short 0x10))) 0x5A),
  (.s32, [0x0F, 0xBA, 0xB4, 0x4D, 0x44, 0x33, 0x22, 0x11, 0x5A], .btrRmvImm8 (.mem (.sib 1 (some .ecx) .ebp (.full 0x11223344))) 0x5A),
  (.s16, [0x0F, 0xBA, 0xFE, 0x5A], .btcRmvImm8 (.reg .esi) 0x5A),
  (.s32, [0x0F, 0xBB, 0x94, 0x4D, 0x44, 0x33, 0x22, 0x11], .btcRmvRv (.mem (.sib 1 (some .ecx) .ebp (.full 0x11223344))) .edx),
  (.s16, [0x0F, 0xBC, 0x57, 0x10], .bsf .edx (.mem (.a16 .bx (.short 0x10)))),
  (.s32, [0x0F, 0xBD, 0xD6], .bsr .edx (.reg .esi)),
  (.s16, [0x0F, 0xBE, 0x57, 0x10], .movsxRm8 .edx (.mem (.a16 .bx (.short 0x10)))),
  (.s32, [0x0F, 0xBF, 0x94, 0x4D, 0x44, 0x33, 0x22, 0x11], .movsxRm16 .edx (.mem (.sib 1 (some .ecx) .ebp (.full 0x11223344))))]

theorem test_words8_decode : words8.all WordRow.ok = true := by decide +kernel

/-! ### Refused words and ill-formed terms -/

/-- R155: unassigned encodings are refused; V15 names these. -/
theorem test_unassigned_words_are_refused :
    [[0x0F, 0x05], [0xD6], [0xF1], [0x82, 0xC0, 0x01], [0xFF, 0xF8], [0xF6, 0xC8], [0xFE, 0xD0], [0x0F, 0xFF]].all
      (fun bs => decode .s16 .s16 bs == .undefinedOpcode) = true := by decide +kernel

/-- An instruction cut short is refused as such. -/
theorem test_cut_words_are_refused :
    [[], [0x81], [0x81, 0xC0, 0x34], [0x0F], [0x8B, 0x46], [0xEA, 0x00, 0x01, 0x00]].all
      (fun bs => decode .s16 .s16 bs == .truncated) = true := by decide +kernel

/-- A field of the other operand size is ill-formed. -/
theorem test_wf_refuses_field_of_other_size : (Instr.addEaxImmv (.w32 1)).wellFormed .s16 .s16 = false := by
  decide +kernel

/-- A 32-bit address is ill-formed at a 16-bit address size. -/
theorem test_wf_refuses_address_of_other_size :
    (Instr.pushRmv (.mem (.a32abs 0))).wellFormed .s16 .s16 = false := by decide +kernel

/-- Mode 00 with r/m BP names no base without displacement (R145). -/
theorem test_wf_refuses_bp_without_displacement :
    (Instr.pushRmv (.mem (.a16 .bp .none))).wellFormed .s16 .s16 = false := by decide +kernel

/-- Mode 00 with r/m EBP names no base without displacement (R146). -/
theorem test_wf_refuses_ebp_without_displacement :
    (Instr.pushRmv (.mem (.a32 .ebp .none))).wellFormed .s32 .s32 = false := by decide +kernel

/-- A base of EBP in a SIB byte needs a displacement (R147). -/
theorem test_wf_refuses_sib_ebp_without_displacement :
    (Instr.pushRmv (.mem (.sib 0 none .ebp .none))).wellFormed .s32 .s32 = false := by decide +kernel

/-- R/m ESP is the SIB byte's (R146). -/
theorem test_wf_refuses_esp_without_sib :
    (Instr.pushRmv (.mem (.a32 .esp (.short 0)))).wellFormed .s32 .s32 = false := by decide +kernel

/-- ESP is no index (R147). -/
theorem test_wf_refuses_esp_as_index :
    (Instr.pushRmv (.mem (.sib 0 (some .esp) .eax .none))).wellFormed .s32 .s32 = false := by decide +kernel

/-- ESP is no index without a base either (R147). -/
theorem test_wf_refuses_esp_as_index_without_base :
    (Instr.pushRmv (.mem (.sibNoBase 0 (some .esp) 0))).wellFormed .s32 .s32 = false := by decide +kernel

/-- The word of XCHG EAX,EAX is NOP (R369). -/
theorem test_wf_refuses_xchg_eax_eax : (Instr.xchgEaxRv .eax).wellFormed .s16 .s16 = false := by decide +kernel

/-- A far pointer's offset has the operand size. -/
theorem test_wf_refuses_far_offset_of_other_size : (Instr.jmpFar (.w32 0) 8).wellFormed .s16 .s16 = false := by
  decide +kernel

/-! ### States for the examples -/

/-- Real Address Mode with every segment base 0 and EIP = 0100H. -/
def real : State := { State.reset with segs := { State.reset.segs with cs := .real 0 }, eip := 0x100 }

/-- A flat segment of a level: base 0, limit FFFFFFFFH, 32-bit. -/
def flatSeg (sel : BitVec 16) (code : Bool) (dpl : BitVec 2) : SegReg :=
  { sel := sel, valid := true, base := 0, limit := 0xFFFFFFFF, code := code, rw := true, ce := false, dpl := dpl,
    present := true, db := true }

/-- Protected Mode with flat 32-bit segments of a level, EIP and ESP = 1000H, and tables at 3000H (GDT), 4000H (IDT) and
5000H (task state segment). -/
def flat (level : BitVec 2) : State :=
  let data := flatSeg (0x10 ||| level.setWidth 16) false level
  { State.reset with
    eip := 0x1000
    gpr := { State.reset.gpr with esp := 0x1000 }
    segs := { es := data, cs := flatSeg (0x8 ||| level.setWidth 16) true level, ss := data, ds := data, fs := data,
              gs := data }
    tables := { gdtr := { base := 0x3000, limit := 0xFF }, idtr := { base := 0x4000, limit := 0x7FF },
                ldtr := .reset, tr := { sel := 0x28, valid := true, base := 0x5000, limit := 0x67, is386 := true } }
    ctrl := { State.reset.ctrl with cr0 := { State.reset.ctrl.cr0 with pe := true } } }

/-- Virtual 8086 Mode with IOPL and EIP = 0100H. -/
def v86 (iopl : BitVec 2) : State :=
  let s := flat 3
  { s with eip := 0x100, segs := { real.segs with cs := .real 0x1000 }, flags := { s.flags with vm := true, iopl := iopl } }

/-- A state with bytes in memory. -/
def withBytes (s : State) (a : Nat) (bs : List Byte) : State :=
  { s with mem := memSetBytes s.mem ((List.range bs.length).map (a + ·)) bs }

/-- Bytes of memory. -/
def bytesAt (t : State) (a n : Nat) : List Byte := memBytes t.mem ((List.range n).map (a + ·))

/-- What one step that runs the given bytes gives, seen through `f`. -/
def run {α : Type} (s : State) (bs : List Byte) (f : State → α) : Option α :=
  match step (s.placeInstr bs) with
  | .next t => some (f t)
  | .fault _ => none
  | .refused _ => none

/-- CF, PF, AF, ZF, SF, OF. -/
def status (t : State) : List Bool := [t.flags.cf, t.flags.pf, t.flags.af, t.flags.zf, t.flags.sf, t.flags.ofl]

/-- CF, PF, ZF, SF: the flags that logic operations and shifts define. -/
def logicFlags (t : State) : List Bool := [t.flags.cf, t.flags.pf, t.flags.zf, t.flags.sf]

/-! ### The spec's examples (spec/95_test_vectors.md and the rules), one step each -/

/-- V30. -/
theorem test_add_eax_overflows : run { (flat 0) with gpr := { (flat 0).gpr with eax := 0x7FFFFFFF, ebx := 1 } } [0x01, 0xD8]
    (fun t => (t.gpr.eax, status t)) = some ((0x80000000, [false, true, true, false, true, true])) := by decide +kernel

/-- V31. -/
theorem test_add_al_wraps : run { real with gpr := { real.gpr with eax := 0xFF } } [0x04, 0x01]
    (fun t => (t.gpr.eax, status t)) = some ((0, [true, true, true, true, false, false])) := by decide +kernel

/-- V33. -/
theorem test_adc_takes_carry : run { real with gpr := { real.gpr with eax := 1 }, flags := { real.flags with cf := true } } [0x15, 0xFF, 0xFF]
    (fun t => (t.gpr.eax, status t)) = some ((1, [true, false, true, false, false, false])) := by decide +kernel

/-- V36. -/
theorem test_sub_borrows : run { (flat 0) with gpr := { (flat 0).gpr with eax := 5, ebx := 7 } } [0x29, 0xD8]
    (fun t => (t.gpr.eax, status t)) = some ((0xFFFFFFFE, [true, false, true, false, true, false])) := by decide +kernel

/-- V38. -/
theorem test_sbb_carries_out_of_equal : run { real with gpr := { real.gpr with eax := 0 }, flags := { real.flags with cf := true } } [0x1C, 0xFF]
    (fun t => (t.gpr.eax, status t)) = some ((0, [true, true, true, true, false, false])) := by decide +kernel

/-- V40. -/
theorem test_cmp_keeps_operand : run { real with gpr := { real.gpr with eax := 0 } } [0x3C, 0x01]
    (fun t => (t.gpr.eax, status t)) = some ((0, [true, true, true, false, true, false])) := by decide +kernel

/-- V41. -/
theorem test_inc_keeps_carry : run { (flat 0) with gpr := { (flat 0).gpr with eax := 0xFFFFFFFF } } [0x40]
    (fun t => (t.gpr.eax, status t)) = some ((0, [false, true, true, true, false, false])) := by decide +kernel

/-- V44. -/
theorem test_dec_overflows : run { real with gpr := { real.gpr with eax := 0x80 } } [0xFE, 0xC8]
    (fun t => (t.gpr.eax, status t)) = some ((0x7F, [false, false, true, false, false, true])) := by decide +kernel

/-- V46. -/
theorem test_neg_most_negative : run { real with gpr := { real.gpr with eax := 0x80 } } [0xF6, 0xD8]
    (fun t => (t.gpr.eax, status t)) = some ((0x80, [true, false, false, false, true, true])) := by decide +kernel

/-- V48. -/
theorem test_and : run { real with gpr := { real.gpr with eax := 0x3A } } [0x24, 0x0F]
    (fun t => (t.gpr.eax, logicFlags t)) = some ((0x0A, [false, true, false, false])) := by decide +kernel

/-- V49. -/
theorem test_or : run { real with gpr := { real.gpr with eax := 0x10 } } [0x0C, 0x01]
    (fun t => (t.gpr.eax, logicFlags t)) = some ((0x11, [false, true, false, false])) := by decide +kernel

/-- V50. -/
theorem test_xor_itself : run { (flat 0) with gpr := { (flat 0).gpr with eax := 0x1234 } } [0x31, 0xC0]
    (fun t => (t.gpr.eax, logicFlags t)) = some ((0, [false, true, true, false])) := by decide +kernel

/-- V51. -/
theorem test_test_keeps_operand : run { real with gpr := { real.gpr with eax := 0x7F } } [0xA8, 0x80]
    (fun t => (t.gpr.eax, logicFlags t)) = some ((0x7F, [false, true, true, false])) := by decide +kernel

/-- V52. -/
theorem test_not : run { real with gpr := { real.gpr with eax := 0x55 } } [0xF6, 0xD0]
    (fun t => (t.gpr.eax, status t)) = some ((0xAA, [false, false, false, false, false, false])) := by decide +kernel

/-- V53. -/
theorem test_mul_byte : run { real with gpr := { real.gpr with eax := 0x10, ebx := 0x10 } } [0xF6, 0xE3]
    (fun t => (t.gpr.eax, t.flags.cf, t.flags.ofl)) = some ((0x100, true, true)) := by decide +kernel

/-- V54. -/
theorem test_mul_dword : run { (flat 0) with gpr := { (flat 0).gpr with eax := 0xFFFFFFFF, ecx := 2 } } [0xF7, 0xE1]
    (fun t => (t.gpr.edx, t.gpr.eax, t.flags.cf)) = some ((1, 0xFFFFFFFE, true)) := by decide +kernel

/-- V56. -/
theorem test_imul_byte_fits : run { real with gpr := { real.gpr with eax := 0xFE, ebx := 3 } } [0xF6, 0xEB]
    (fun t => (t.gpr.eax, t.flags.cf, t.flags.ofl)) = some ((0xFFFA, false, false)) := by decide +kernel

/-- V57. -/
theorem test_imul_imm8_cut : run { real with gpr := { real.gpr with eax := 0x3E8 } } [0x6B, 0xC0, 0x64]
    (fun t => (t.gpr.eax, t.flags.cf)) = some ((0x86A0, true)) := by decide +kernel

/-- V58. -/
theorem test_div_byte : run { real with gpr := { real.gpr with eax := 0x105, ebx := 0x10 } } [0xF6, 0xF3]
    (fun t => t.gpr.eax) = some (0x510) := by decide +kernel

/-- V59. -/
theorem test_div_overflow_interrupts : run (withBytes { real with gpr := { real.gpr with eax := 0x1000, ebx := 0x10, esp := 0x1000 } } 0 [0x00, 0x02, 0x00, 0x00]) [0xF6, 0xF3]
    (fun t => (t.gpr.eax, t.eip, bytesAt t 0xFFA 2)) = some ((0x1000, 0x200, [0x00, 0x01])) := by decide +kernel

/-- V61. -/
theorem test_idiv_truncates : run { real with gpr := { real.gpr with eax := 0xFFF9, ebx := 2 } } [0xF6, 0xFB]
    (fun t => t.gpr.eax) = some (0xFFFD) := by decide +kernel

/-- V63. -/
theorem test_cbw : run { real with gpr := { real.gpr with eax := 0x80 } } [0x98]
    (fun t => t.gpr.eax) = some (0xFF80) := by decide +kernel

/-- V64. -/
theorem test_cdq : run { (flat 0) with gpr := { (flat 0).gpr with eax := 0x7FFFFFFF, edx := 5 } } [0x99]
    (fun t => t.gpr.edx) = some (0) := by decide +kernel

/-- V65. -/
theorem test_movsx : run { (flat 0) with gpr := { (flat 0).gpr with ebx := 0x80 } } [0x0F, 0xBE, 0xC3]
    (fun t => t.gpr.eax) = some (0xFFFFFF80) := by decide +kernel

/-- V66. -/
theorem test_movzx_word : run { (flat 0) with gpr := { (flat 0).gpr with ecx := 0xFFFFFFFF } } [0x0F, 0xB7, 0xC1]
    (fun t => t.gpr.eax) = some (0xFFFF) := by decide +kernel

/-- V71. -/
theorem test_aaa : run { real with gpr := { real.gpr with eax := 0xFA } } [0x37]
    (fun t => (t.gpr.eax, t.flags.af, t.flags.cf)) = some ((0x100, true, true)) := by decide +kernel

/-- V73. -/
theorem test_aas : run { real with gpr := { real.gpr with eax := 0x1FF }, flags := { real.flags with af := true } } [0x3F]
    (fun t => (t.gpr.eax, t.flags.af, t.flags.cf)) = some ((9, true, true)) := by decide +kernel

/-- V74. -/
theorem test_aad : run { real with gpr := { real.gpr with eax := 0x207 } } [0xD5, 0x0A]
    (fun t => (t.gpr.eax, t.flags.zf, t.flags.pf)) = some ((0x1B, false, true)) := by decide +kernel

/-- V75. -/
theorem test_aam : run { real with gpr := { real.gpr with eax := 0x3F } } [0xD4, 0x0A]
    (fun t => (t.gpr.eax, t.flags.pf)) = some ((0x603, true)) := by decide +kernel

/-- V77. -/
theorem test_daa : run { real with gpr := { real.gpr with eax := 0x9A } } [0x27]
    (fun t => (t.gpr.eax, t.flags.cf, t.flags.zf)) = some ((0, true, true)) := by decide +kernel

/-- V78. -/
theorem test_das : run { real with gpr := { real.gpr with eax := 0xEE }, flags := { real.flags with af := true, cf := true } } [0x2F]
    (fun t => (t.gpr.eax, t.flags.cf, t.flags.sf)) = some ((0x88, true, true)) := by decide +kernel

/-- V80. -/
theorem test_shl_by_one : run { real with gpr := { real.gpr with eax := 0xC0 } } [0xD0, 0xE0]
    (fun t => (t.gpr.eax, logicFlags t, t.flags.ofl)) = some ((0x80, [true, false, false, true], false)) := by decide +kernel

/-- V83. -/
theorem test_sar_by_31 : run { (flat 0) with gpr := { (flat 0).gpr with eax := 0x80000000 } } [0xC1, 0xF8, 0x1F]
    (fun t => (t.gpr.eax, logicFlags t)) = some ((0xFFFFFFFF, [false, true, false, true])) := by decide +kernel

/-- V85. -/
theorem test_shr_by_cl_masked : run { (flat 0) with gpr := { (flat 0).gpr with eax := 0xF0, ecx := 0x24 } } [0xD3, 0xE8]
    (fun t => (t.gpr.eax, logicFlags t)) = some ((0xF, [false, true, false, false])) := by decide +kernel

/-- V86. -/
theorem test_shl_by_count_0 : run { (flat 0) with gpr := { (flat 0).gpr with eax := 0xF0, ecx := 0x20 }, flags := { (flat 0).flags with cf := true } } [0xD3, 0xE0]
    (fun t => (t.gpr.eax, logicFlags t)) = some ((0xF0, [true, false, false, false])) := by decide +kernel

/-- V88. -/
theorem test_rol_by_4 : run { (flat 0) with gpr := { (flat 0).gpr with eax := 0x12345678 } } [0xC1, 0xC0, 0x04]
    (fun t => (t.gpr.eax, t.flags.cf)) = some ((0x23456781, true)) := by decide +kernel

/-- V89. -/
theorem test_ror_by_one : run { real with gpr := { real.gpr with eax := 1 } } [0xD0, 0xC8]
    (fun t => (t.gpr.eax, t.flags.cf, t.flags.ofl)) = some ((0x80, true, true)) := by decide +kernel

/-- V90. -/
theorem test_rcl_by_one : run { real with gpr := { real.gpr with eax := 0x80 } } [0xD0, 0xD0]
    (fun t => (t.gpr.eax, t.flags.cf, t.flags.ofl)) = some ((0, true, true)) := by decide +kernel

/-- V91. -/
theorem test_rcr_by_one : run { real with flags := { real.flags with cf := true } } [0xD0, 0xD8]
    (fun t => (t.gpr.eax, t.flags.cf, t.flags.ofl)) = some ((0x80, false, true)) := by decide +kernel

/-- V92. -/
theorem test_shld : run { (flat 0) with gpr := { (flat 0).gpr with eax := 0x12345678, ebx := 0xABCDEF01 } } [0x0F, 0xA4, 0xD8, 0x04]
    (fun t => (t.gpr.eax, logicFlags t)) = some ((0x2345678A, [true, false, false, false])) := by decide +kernel

/-- V93. -/
theorem test_shrd : run { (flat 0) with gpr := { (flat 0).gpr with eax := 0x12345678, ebx := 0xABCDEF01 } } [0x0F, 0xAC, 0xD8, 0x04]
    (fun t => (t.gpr.eax, logicFlags t)) = some ((0x11234567, [true, false, false, false])) := by decide +kernel

/-- V95. -/
theorem test_bsf : run { (flat 0) with gpr := { (flat 0).gpr with ebx := 8 } } [0x0F, 0xBC, 0xC3]
    (fun t => (t.gpr.eax, t.flags.zf)) = some ((3, false)) := by decide +kernel

/-- V97. -/
theorem test_bsr : run { (flat 0) with gpr := { (flat 0).gpr with ebx := 0x80000001 } } [0x0F, 0xBD, 0xC3]
    (fun t => (t.gpr.eax, t.flags.zf)) = some ((31, false)) := by decide +kernel

/-- V98. -/
theorem test_bt : run { (flat 0) with gpr := { (flat 0).gpr with eax := 0x200000 } } [0x0F, 0xBA, 0xE0, 0x15]
    (fun t => (t.gpr.eax, t.flags.cf)) = some ((0x200000, true)) := by decide +kernel

/-- V99. -/
theorem test_btc : run { (flat 0) with gpr := { (flat 0).gpr with eax := 1 } } [0x0F, 0xBA, 0xF8, 0x00]
    (fun t => (t.gpr.eax, t.flags.cf)) = some ((0, true)) := by decide +kernel

/-- V100. -/
theorem test_bts_memory : run { (flat 0) with gpr := { (flat 0).gpr with eax := 13, ebx := 0x2000 } } [0x0F, 0xAB, 0x03]
    (fun t => (bytesAt t 0x2000 4, t.flags.cf)) = some (([0, 0x20, 0, 0], false)) := by decide +kernel

/-- V101. -/
theorem test_btr_memory_below : run (withBytes { (flat 0) with gpr := { (flat 0).gpr with ecx := 0xFFFFFFF5, ebx := 0x2000 } } 0x1FFC [0xFF, 0xFF, 0xFF, 0xFF]) [0x0F, 0xB3, 0x0B]
    (fun t => (bytesAt t 0x1FFC 4, t.flags.cf)) = some (([0xFF, 0xFF, 0xDF, 0xFF], true)) := by decide +kernel

/-- V103. -/
theorem test_setne : run { real with gpr := { real.gpr with eax := 0xFF }, flags := { real.flags with zf := true } } [0x0F, 0x95, 0xC0]
    (fun t => t.gpr.eax) = some (0) := by decide +kernel

/-- V111. -/
theorem test_mov_word_immediate : run real [0xC7, 0x06, 0x00, 0x10, 0xEF, 0xBE]
    (fun t => bytesAt t 0x1000 2) = some ([0xEF, 0xBE]) := by decide +kernel

/-- V110. -/
theorem test_mov_keeps_upper_half : run { real with gpr := { real.gpr with eax := 0xAAAA0000 } } [0xB8, 0x34, 0x12]
    (fun t => t.gpr.eax) = some (0xAAAA1234) := by decide +kernel

/-- V113. -/
theorem test_xchg : run { (flat 0) with gpr := { (flat 0).gpr with ebx := 1, ecx := 2 } } [0x87, 0xD9]
    (fun t => (t.gpr.ebx, t.gpr.ecx)) = some ((2, 1)) := by decide +kernel

/-- V115. -/
theorem test_xlat_wraps : run (withBytes { real with gpr := { real.gpr with eax := 2, ebx := 0xFFFF } } 1 [0x7A]) [0xD7]
    (fun t => t.gpr.eax) = some (0x7A) := by decide +kernel

/-- V116. -/
theorem test_push_ax : run { real with gpr := { real.gpr with eax := 0xBEEF, esp := 0x100 } } [0x50]
    (fun t => (t.gpr.esp, bytesAt t 0xFE 2)) = some ((0xFE, [0xEF, 0xBE])) := by decide +kernel

/-- V117. -/
theorem test_push_esp : run (flat 0) [0x54]
    (fun t => (t.gpr.esp, bytesAt t 0xFFC 4)) = some ((0xFFC, [0, 0x10, 0, 0])) := by decide +kernel

/-- V120. -/
theorem test_pop_esp : run (withBytes { (flat 0) with gpr := { (flat 0).gpr with esp := 0xFFC } } 0xFFC [0x00, 0x20, 0x00, 0x00]) [0x5C]
    (fun t => t.gpr.esp) = some (0x2000) := by decide +kernel

/-- V121. -/
theorem test_pusha : run { real with gpr := { real.gpr with eax := 1, ecx := 2, edx := 3, ebx := 4, esp := 0x100, ebp := 5, esi := 6, edi := 7 } } [0x60]
    (fun t => (t.gpr.esp, bytesAt t 0xF0 10)) = some ((0xF0, [7, 0, 6, 0, 5, 0, 0, 1, 4, 0])) := by decide +kernel

/-- V122. -/
theorem test_popa : run (withBytes { real with gpr := { real.gpr with esp := 0xF0 } } 0xF0 [0x07, 0x00, 0x06, 0x00, 0x05, 0x00, 0x00, 0x01, 0x04, 0x00, 0x03, 0x00, 0x02, 0x00, 0x01, 0x00]) [0x61]
    (fun t => (t.gpr.edi, t.gpr.ebp, t.gpr.ebx, t.gpr.eax, t.gpr.esp)) = some ((7, 5, 4, 1, 0x100)) := by decide +kernel

/-- V124. -/
theorem test_popf_at_level_3 : run { (flat 3) with gpr := { (flat 3).gpr with esp := 0x1800 }, flags := { (flat 3).flags with intf := true, cf := true } } [0x9D]
    (fun t => (t.flags.image, t.gpr.esp)) = some ((0x202, 0x1804)) := by decide +kernel

/-- V125. -/
theorem test_lahf : run { real with flags := { real.flags with sf := true, af := true, cf := true } } [0x9F]
    (fun t => t.gpr.eax) = some (0x9300) := by decide +kernel

/-- V126. -/
theorem test_sahf : run { real with gpr := { real.gpr with eax := 0xD500 } } [0x9E]
    (fun t => status t) = some ([true, true, true, true, true, false]) := by decide +kernel

/-- V128. -/
theorem test_enter : run (withBytes { (flat 0) with gpr := { (flat 0).gpr with ebp := 0x2000 } } 0x1FFC [0x01, 0x00, 0xAA, 0xAA]) [0xC8, 0x08, 0x00, 0x02]
    (fun t => (t.gpr.ebp, t.gpr.esp, bytesAt t 0xFF4 12)) = some ((0xFFC, 0xFEC, [0xFC, 0xF, 0, 0, 1, 0, 0xAA, 0xAA, 0, 0x20, 0, 0])) := by decide +kernel

/-- V129. -/
theorem test_leave : run (withBytes { (flat 0) with gpr := { (flat 0).gpr with ebp := 0x1800 } } 0x1800 [0x00, 0x20, 0x00, 0x00]) [0xC9]
    (fun t => (t.gpr.esp, t.gpr.ebp)) = some ((0x1804, 0x2000)) := by decide +kernel

/-- V130. -/
theorem test_les : run (withBytes real 0x2000 [0x34, 0x12, 0x00, 0xB8]) [0xC4, 0x1E, 0x00, 0x20]
    (fun t => (t.gpr.ebx, t.segs.es.sel, t.segs.es.base)) = some ((0x1234, 0xB800, 0xB8000)) := by decide +kernel

/-- V131. -/
theorem test_movsb_down : run (withBytes { real with gpr := { real.gpr with esi := 0x10, edi := 0x20 }, flags := { real.flags with df := true } } 0x10 [0x12]) [0xA4]
    (fun t => (t.gpr.esi, t.gpr.edi, bytesAt t 0x20 1)) = some ((0xF, 0x1F, [0x12])) := by decide +kernel

/-- V132. -/
theorem test_rep_movsb_one_iteration : run (withBytes { real with gpr := { real.gpr with ecx := 3, esi := 0x10, edi := 0x20 } } 0x10 [0x12]) [0xF3, 0xA4]
    (fun t => (t.gpr.ecx, t.gpr.esi, t.eip, bytesAt t 0x20 1)) = some ((2, 0x11, 0x100, [0x12])) := by decide +kernel

/-- V133. -/
theorem test_rep_movsb_count_0 : run { real with gpr := { real.gpr with esi := 0x10 } } [0xF3, 0xA4]
    (fun t => (t.gpr.esi, t.eip)) = some ((0x10, 0x102)) := by decide +kernel

/-- V134. -/
theorem test_repe_cmpsb_stops : run (withBytes { real with gpr := { real.gpr with ecx := 3, esi := 0x10, edi := 0x20 } } 0x10 [0x12]) [0xF3, 0xA6]
    (fun t => (t.gpr.ecx, t.flags.zf, t.eip)) = some ((2, false, 0x102)) := by decide +kernel

/-- V135. -/
theorem test_repne_scasb_stops : run { real with gpr := { real.gpr with ecx := 0xFFFD, edi := 0x22 } } [0xF2, 0xAE]
    (fun t => (t.gpr.ecx, t.flags.zf, t.gpr.edi, t.eip)) = some ((0xFFFC, true, 0x23, 0x102)) := by decide +kernel

/-- V137. -/
theorem test_lodsb : run (withBytes { real with gpr := { real.gpr with esi := 0x10 } } 0x10 [0x41]) [0xAC]
    (fun t => (t.gpr.eax, t.gpr.esi)) = some ((0x41, 0x11)) := by decide +kernel

/-- V136. -/
theorem test_stosd_repeated : run { (flat 0) with gpr := { (flat 0).gpr with ecx := 4, edi := 0x2000, eax := 0x11 } } [0xF3, 0xAB]
    (fun t => (t.gpr.ecx, t.gpr.edi, bytesAt t 0x2000 4)) = some ((3, 0x2004, [0x11, 0, 0, 0])) := by decide +kernel

/-- V138. -/
theorem test_out_is_an_event : run { real with gpr := { real.gpr with eax := 0x5A } } [0xE6, 0x80]
    (fun t => t.io) = some ([.output 0x80 1 0x5A]) := by decide +kernel

/-- V150. -/
theorem test_jz_taken : run { real with flags := { real.flags with zf := true } } [0x74, 0x05]
    (fun t => t.eip) = some (0x107) := by decide +kernel

/-- V151. -/
theorem test_jnz_near_backwards : run real [0x0F, 0x85, 0xFA, 0xFF]
    (fun t => t.eip) = some (0xFE) := by decide +kernel

/-- V153. -/
theorem test_jcxz_looks_at_cx : run { real with gpr := { real.gpr with ecx := 0x10000 } } [0xE3, 0x10]
    (fun t => t.eip) = some (0x112) := by decide +kernel

/-- V156. -/
theorem test_jmp_indirect : run { real with gpr := { real.gpr with ebx := 0x1234 } } [0xFF, 0xE3]
    (fun t => t.eip) = some (0x1234) := by decide +kernel

/-- V157. -/
theorem test_jmp_far_real : run real [0xEA, 0x00, 0x00, 0xFF, 0xFF]
    (fun t => (t.segs.cs.base, t.eip)) = some ((0xFFFF0, 0)) := by decide +kernel

/-- V158. -/
theorem test_call_near : run { real with gpr := { real.gpr with esp := 0x100 } } [0xE8, 0x10, 0x00]
    (fun t => (t.eip, t.gpr.esp, bytesAt t 0xFE 2)) = some ((0x113, 0xFE, [3, 1])) := by decide +kernel

/-- V159. -/
theorem test_call_far_real : run { real with gpr := { real.gpr with esp := 0x100 } } [0x9A, 0x00, 0x01, 0x00, 0x20]
    (fun t => (t.segs.cs.sel, t.eip, bytesAt t 0xFC 4)) = some ((0x2000, 0x100, [5, 1, 0, 0])) := by decide +kernel

/-- V160. -/
theorem test_ret_releases : run (withBytes { real with gpr := { real.gpr with esp := 0xFE } } 0xFE [0x03, 0x01]) [0xC2, 0x04, 0x00]
    (fun t => (t.eip, t.gpr.esp)) = some ((0x103, 0x104)) := by decide +kernel

/-- V161. -/
theorem test_retf_real : run (withBytes { real with gpr := { real.gpr with esp := 0xFC } } 0xFC [0x15, 0x00, 0x00, 0x10]) [0xCB]
    (fun t => (t.eip, t.segs.cs.base, t.gpr.esp)) = some ((0x15, 0x10000, 0x100)) := by decide +kernel

/-- V163. -/
theorem test_loop_wraps : run real [0xE2, 0xFE]
    (fun t => (t.gpr.ecx, t.eip)) = some ((0xFFFF, 0x100)) := by decide +kernel

/-- V164. -/
theorem test_call_far_protected : run (withBytes (flat 0) 0x3008 [0xFF, 0xFF, 0x00, 0x00, 0x00, 0x9A, 0xCF, 0x00]) [0x9A, 0x00, 0x20, 0x00, 0x00, 0x08, 0x00]
    (fun t => (t.segs.cs.sel, t.eip, t.gpr.esp)) = some ((8, 0x2000, 0xFF8)) := by decide +kernel

/-- V180. -/
theorem test_int_real : run (withBytes { real with gpr := { real.gpr with esp := 0x100 }, flags := { real.flags with intf := true } } 0x84 [0x34, 0x12, 0x00, 0x20]) [0xCD, 0x21]
    (fun t => (t.eip, t.segs.cs.sel, t.gpr.esp, t.flags.intf, bytesAt t 0xFA 6)) = some ((0x1234, 0x2000, 0xFA, false, [2, 1, 0, 0, 2, 2])) := by decide +kernel

/-- V181. -/
theorem test_iret_real : run (withBytes { real with gpr := { real.gpr with esp := 0xFA } } 0xFA [0x02, 0x01, 0x00, 0x10, 0x02, 0x02]) [0xCF]
    (fun t => (t.eip, t.segs.cs.sel, t.flags.image, t.gpr.esp)) = some ((0x102, 0x1000, 0x202, 0x100)) := by decide +kernel

/-- V182. -/
theorem test_int3 : run (withBytes { real with gpr := { real.gpr with esp := 0x100 } } 0xC [0x00, 0x03, 0x00, 0x00]) [0xCC]
    (fun t => (t.eip, bytesAt t 0xFA 2)) = some ((0x300, [1, 1])) := by decide +kernel

/-- V183. -/
theorem test_into_not_taken : run real [0xCE]
    (fun t => t.eip) = some (0x101) := by decide +kernel

/-- V186. -/
theorem test_int_to_inner_level : run (withBytes (withBytes (withBytes (withBytes (flat 3) 0x3008 [0xFF, 0xFF, 0x00, 0x00, 0x00, 0x9A, 0xCF, 0x00]) 0x3010 [0xFF, 0xFF, 0x00, 0x00, 0x00, 0x92, 0xCF, 0x00]) 0x4180 [0x00, 0x20, 0x08, 0x00, 0x00, 0xEF, 0x00, 0x00]) 0x5004 [0x00, 0x80, 0x00, 0x00, 0x10, 0x00]) [0xCD, 0x30]
    (fun t => (t.segs.cs.sel, t.eip, t.gpr.esp)) = some ((8, 0x2000, 0x7FEC)) := by decide +kernel

/-- V189. -/
theorem test_mov_ds_null : run (flat 0) [0x8E, 0xD8]
    (fun t => (t.segs.ds.sel, t.segs.ds.valid)) = some ((0, false)) := by decide +kernel

/-- V196. -/
theorem test_clts : run { (flat 0) with ctrl := { (flat 0).ctrl with cr0 := { pe := true, mp := true, em := false, ts := true, et := false, pg := false } } } [0x0F, 0x06]
    (fun t => t.ctrl.cr0.image) = some (3) := by decide +kernel

/-- V198. -/
theorem test_smsw : run { (flat 0) with ctrl := { (flat 0).ctrl with cr0 := { pe := true, mp := false, em := false, ts := false, et := true, pg := false } } } [0x66, 0x0F, 0x01, 0xE0]
    (fun t => t.gpr.eax) = some (0x11) := by decide +kernel

/-- V199. -/
theorem test_lmsw_keeps_pe : run { (flat 0) with gpr := { (flat 0).gpr with eax := 0xFFF0 }, ctrl := { (flat 0).ctrl with cr0 := { pe := true, mp := true, em := false, ts := false, et := true, pg := false } } } [0x0F, 0x01, 0xF0]
    (fun t => t.ctrl.cr0.image) = some (0x11) := by decide +kernel

/-- V200. -/
theorem test_sgdt : run { (flat 0) with tables := { (flat 0).tables with gdtr := { base := 0x12345, limit := 0xFFF } } } [0x0F, 0x01, 0x05, 0x00, 0x20, 0x00, 0x00]
    (fun t => bytesAt t 0x2000 6) = some ([0xFF, 0xF, 0x45, 0x23, 1, 0]) := by decide +kernel

/-- V201. -/
theorem test_lgdt_16 : run (withBytes real 0x1000 [0xFF, 0x03, 0x56, 0x34, 0x12, 0xAB]) [0x0F, 0x01, 0x16, 0x00, 0x10]
    (fun t => (t.tables.gdtr.limit, t.tables.gdtr.base)) = some ((0x3FF, 0x123456)) := by decide +kernel

/-- V202. -/
theorem test_lsl : run (withBytes { (flat 0) with gpr := { (flat 0).gpr with ebx := 0x10 } } 0x3010 [0xFF, 0xFF, 0x00, 0x00, 0x00, 0x92, 0xCF, 0x00]) [0x0F, 0x03, 0xC3]
    (fun t => (t.gpr.eax, t.flags.zf)) = some ((0xFFFFFFFF, true)) := by decide +kernel

/-- V203. -/
theorem test_lar : run (withBytes { (flat 0) with gpr := { (flat 0).gpr with ebx := 0x10 } } 0x3010 [0xFF, 0xFF, 0x00, 0x00, 0x00, 0xF3, 0xCF, 0x00]) [0x0F, 0x02, 0xC3]
    (fun t => t.flags.zf) = some (true) := by decide +kernel

/-- V205. -/
theorem test_arpl : run { (flat 0) with gpr := { (flat 0).gpr with eax := 8, ecx := 0x13 } } [0x63, 0xC8]
    (fun t => (t.gpr.eax, t.flags.zf)) = some ((0xB, true)) := by decide +kernel

/-- V207. -/
theorem test_verr_hidden : run (withBytes { (flat 3) with gpr := { (flat 3).gpr with eax := 0x10 } } 0x3010 [0xFF, 0xFF, 0x00, 0x00, 0x00, 0x92, 0xCF, 0x00]) [0x0F, 0x00, 0xE0]
    (fun t => t.flags.zf) = some (false) := by decide +kernel

/-- V208. -/
theorem test_verw_read_only : run (withBytes { (flat 3) with gpr := { (flat 3).gpr with eax := 0x13 } } 0x3010 [0xFF, 0xFF, 0x00, 0x00, 0x00, 0xF0, 0xCF, 0x00]) [0x0F, 0x00, 0xE8]
    (fun t => t.flags.zf) = some (false) := by decide +kernel

/-- V209. -/
theorem test_bound_passes : run (withBytes { real with gpr := { real.gpr with eax := 5 } } 0x1000 [0x00, 0x00, 0x09, 0x00]) [0x62, 0x06, 0x00, 0x10]
    (fun t => t.eip) = some (0x104) := by decide +kernel

/-- V209. -/
theorem test_bound_fails : run (withBytes (withBytes { real with gpr := { real.gpr with eax := 0xFFFF, esp := 0x100 } } 0x1000 [0x00, 0x00, 0x09, 0x00]) 0x14 [0x00, 0x03, 0x00, 0x00]) [0x62, 0x06, 0x00, 0x10]
    (fun t => (t.eip, bytesAt t 0xFA 2)) = some ((0x300, [0, 1])) := by decide +kernel

/-- V212. -/
theorem test_push_shuts_down : run { real with gpr := { real.gpr with esp := 1 } } [0x50]
    (fun t => t.seq.shutdown) = some (true) := by decide +kernel

/-- R341. -/
theorem test_lldt_null : run (flat 0) [0x0F, 0x00, 0xD0]
    (fun t => (t.tables.ldtr.sel, t.tables.ldtr.valid)) = some ((0, false)) := by decide +kernel

/-- R347. -/
theorem test_ltr_marks_busy : run (withBytes { (flat 0) with gpr := { (flat 0).gpr with eax := 0x18 } } 0x3018 [0x67, 0x00, 0x00, 0x60, 0x00, 0x89, 0x00, 0x00]) [0x0F, 0x00, 0xD8]
    (fun t => (t.tables.tr.sel, t.tables.tr.base, bytesAt t 0x301D 1)) = some ((0x18, 0x6000, [0x8B])) := by decide +kernel

/-- R431. -/
theorem test_sldt : run { (flat 0) with gpr := { (flat 0).gpr with eax := 0xAAAA0000 }, tables := { (flat 0).tables with ldtr := { sel := 0x28, valid := true, base := 0, limit := 0, is386 := false } } } [0x0F, 0x00, 0xC0]
    (fun t => t.gpr.eax) = some (0xAAAA0028) := by decide +kernel

/-- R437. -/
theorem test_str : run (flat 0) [0x0F, 0x00, 0xC8]
    (fun t => t.gpr.eax) = some (0x28) := by decide +kernel

/-- R43. -/
theorem test_mov_cr3_drops_low_bits : run { (flat 0) with gpr := { (flat 0).gpr with eax := 0x12345FFF } } [0x0F, 0x22, 0xD8]
    (fun t => t.ctrl.cr3) = some (0x12345000) := by decide +kernel

/-- R44. -/
theorem test_mov_from_dr7 : run { (flat 0) with ctrl := { (flat 0).ctrl with dr7 := 0x400 } } [0x0F, 0x21, 0xF8]
    (fun t => t.gpr.eax) = some (0x400) := by decide +kernel

/-- R45. -/
theorem test_mov_to_tr6 : run { (flat 0) with gpr := { (flat 0).gpr with eax := 0x77 } } [0x0F, 0x26, 0xF0]
    (fun t => t.ctrl.tr6) = some (0x77) := by decide +kernel

/-- R271. -/
theorem test_hlt : run real [0xF4]
    (fun t => (t.seq.halted, t.eip)) = some ((true, 0x101)) := by decide +kernel

/-- R441. -/
theorem test_wait_while_busy : run { real with pins := { real.pins with busy := true } } [0x9B]
    (fun t => t.eip) = some (0x100) := by decide +kernel

/-- R478. -/
theorem test_esc_without_coprocessor : run real [0xD9, 0xC0]
    (fun t => t.eip) = some (0x102) := by decide +kernel

/-- R48. -/
theorem test_sti_inhibits : run real [0xFB]
    (fun t => (t.flags.intf, t.seq.inhibit)) = some ((true, .maskable)) := by decide +kernel

/-- R48. -/
theorem test_mov_ss_inhibits : run { real with gpr := { real.gpr with eax := 0x1234 } } [0x8E, 0xD0]
    (fun t => (t.segs.ss.base, t.seq.inhibit)) = some ((0x12340, .all)) := by decide +kernel

/-- V9. -/
theorem test_lea : run { (flat 0) with gpr := { (flat 0).gpr with eax := 0x10, ecx := 3 } } [0x8D, 0x44, 0x88, 0x04]
    (fun t => t.gpr.eax) = some (0x20) := by decide +kernel

/-- V12. -/
theorem test_segment_override : run { real with gpr := { real.gpr with eax := 0x5A, edi := 0x30 } } [0x26, 0x88, 0x05]
    (fun t => (bytesAt t 0x30 1, t.eip)) = some (([0x5A], 0x103)) := by decide +kernel

/-- R298: IRETD in Real Address Mode loads every defined bit of its image, VM too. -/
theorem test_iretd_real_loads_vm : run (withBytes { real with gpr := { real.gpr with esp := 0x200 } } 0x200 [0x02, 0x01, 0, 0, 0, 0x10, 0, 0, 2, 0, 2, 0]) [0x66, 0xCF]
    (fun t => (t.eip, t.flags.image, t.realMode)) = some ((0x102, 0x20002, true)) := by decide +kernel

/-- R393, D18: a straddling push shuts down although a limit kept from Protected Mode would let it pass. -/
theorem test_push_shuts_down_by_sp : run { real with gpr := { real.gpr with esp := 1 }, segs := { real.segs with ss := { real.segs.ss with limit := 0xFFFFFFFF } } } [0x6A, 0x00]
    (fun t => t.seq.shutdown) = some (true) := by decide +kernel

/-- R394: SP = 7 is Interrupt 13, here with the handler at 0000:0300H. -/
theorem test_pusha_odd_sp : run (withBytes { real with gpr := { real.gpr with esp := 7 } } 0x34 [0, 3, 0, 0]) [0x60]
    (fun t => (t.eip, t.gpr.esp, bytesAt t 1 2)) = some ((0x300, 1, [0, 1])) := by decide +kernel

/-- R232: a far CALL beyond FFFFH is Interrupt 13 of the CALL itself, which pushes nothing of its own. -/
theorem test_call_far_real_beyond_64k : run (withBytes (withBytes { real with gpr := { real.gpr with esp := 0x200 } } 0x34 [0, 3, 0, 0]) 0x1000 [0, 0, 1, 0, 0, 0]) [0x66, 0xFF, 0x1E, 0, 0x10]
    (fun t => (t.eip, t.gpr.esp, bytesAt t 0x1FA 2)) = some ((0x300, 0x1FA, [0, 1])) := by decide +kernel

/-- R48: a WAIT that waits for BUSY# keeps the inhibit state of the instruction before it. -/
theorem test_wait_keeps_inhibit : run { real with pins := { real.pins with busy := true }, seq := { real.seq with inhibit := .all } } [0x9B]
    (fun t => (t.eip, t.seq.inhibit)) = some ((0x100, .all)) := by decide +kernel

/-- R107: the bytes of a repeated string instruction lie in the window in which a store is not seen by fetch. -/
theorem test_rep_stosb_over_itself : run { real with gpr := { real.gpr with ecx := 2, edi := 0x101 } } [0xF3, 0xAA]
    (fun t => (t.eip, t.seq.stale)) = some ((0x100, [0x101])) := by decide +kernel

/-! ### Witnesses: states and operands that meet the hypotheses of the obligations, clause by clause -/

/-- The last byte, the last word and the last doubleword that a 16-bit address reaches. -/
def topByte : EA := .a16abs 0xFFFF
def topWord : EA := .a16abs 0xFFFE
def topDword : EA := .a16abs 0xFFFC

/-- A word operand of a flat segment. -/
def flatWord : EA := .a32abs 0x2000

/-- A prefix of the LOCK and repeat group is seen. -/
def prefixed (s : State) (g : GroupPrefix) : State :=
  { s with seq := { s.seq with pfx := { s.seq.pfx with group := some g } } }

/-- General registers changed by a function. -/
def withGpr (s : State) (f : Gpr → Gpr) : State := { s with gpr := f s.gpr }

/-- A code segment of level 0, data of level 0 and level 3, an absent data segment, an available 80386 task state segment,
an LDT and a busy task state segment at the indexes 1 to 7 of the GDT. -/
def gdt (s : State) : State :=
  withBytes s 0x3008 [0xFF, 0xFF, 0, 0, 0, 0x9A, 0xCF, 0, 0xFF, 0xFF, 0, 0, 0, 0x92, 0xCF, 0, 0xFF, 0xFF, 0, 0, 0, 0xF2,
    0xCF, 0, 0xFF, 0xFF, 0, 0, 0, 0x12, 0xCF, 0, 0x67, 0, 0, 0x60, 0, 0x89, 0, 0, 0xF, 0, 0, 0x70, 0, 0x82, 0, 0, 0x67,
    0, 0, 0x50, 0, 0x8B, 0, 0]

/-- The descriptors of `gdt` at the indexes 1, 2, 3, 4, 5, 6. -/
def codeDesc : Desc := ⟨0x0000FFFF, 0x00CF9A00⟩
def dataDesc : Desc := ⟨0x0000FFFF, 0x00CF9200⟩
def userDesc : Desc := ⟨0x0000FFFF, 0x00CFF200⟩
def absentDesc : Desc := ⟨0x0000FFFF, 0x00CF1200⟩
def tssDesc : Desc := ⟨0x60000067, 0x00008900⟩
def ldtDesc : Desc := ⟨0x7000000F, 0x00008200⟩

/-- An IDT with a trap gate of level 3 to 0008:00002000 at vectors 3, 4 and 30H, and the level 0 stack 0010:00008000 in
the task state segment. -/
def idt (s : State) : State :=
  let g : List Byte := [0, 0x20, 8, 0, 0, 0xEF, 0, 0]
  withBytes (withBytes (withBytes s 0x4018 (g ++ g)) 0x4180 g) 0x5004 [0, 0x80, 0, 0, 0x10, 0]

/-- The gate of `idt`. -/
def gateDesc : Desc := ⟨0x00082000, 0x0000EF00⟩

theorem witness_ArithmeticStoresResultAndFlags :
    AluOp.adc ≠ .cmp ∧ LockFits real (.mem topByte) ∧ LockFits (prefixed real .lock) (.mem topByte) ∧ real.plain ∧
      real.readDest .b8 (.mem topByte) = .ok 0 ∧ real.readRM .w16 (.mem topWord) = .ok 0 :=
  ⟨by decide, .inl rfl, .inr ⟨rfl, _, rfl⟩, rfl, rfl, rfl⟩

theorem witness_CompareAndTestOnlySetFlags :
    real.plain ∧ real.readRM .b8 (.mem topByte) = .ok 0 ∧ real.readRM .w16 (.mem topWord) = .ok 0 := ⟨rfl, rfl, rfl⟩

theorem witness_UnaryOperationsStoreResult :
    LockFits real (.reg .esp) ∧ LockFits (prefixed real .lock) (.mem topWord) ∧
      real.readDest .w16 (.mem topWord) = .ok 0 ∧ real.readDest .w16 (.reg .esp) = .ok 0 :=
  ⟨.inl rfl, .inr ⟨rfl, _, rfl⟩, rfl, rfl⟩

theorem witness_ShiftsAndRotatesStoreLoopResult :
    real.plain ∧ real.readDest .w16 (.mem topWord) = .ok 0 ∧ maskedCount real (.imm 32) = 0 ∧
      maskedCount real (.imm 31) ≠ 0 ∧ maskedCount real .one ≠ 0 := ⟨rfl, rfl, rfl, by decide, by decide⟩

theorem witness_ShiftLoopsAreShiftsAndRotations : (1 ≤ 1 ∧ 1 ≤ 31) ∧ 1 ≤ 31 ∧ 31 ≤ 31 := by decide

theorem witness_DoubleShiftsTakeInRegisterBits :
    real.plain ∧ real.readDest real.opSize.width (.mem topWord) = .ok 0 ∧ ((32 : BitVec 8) &&& 31).toNat = 0 ∧
      (0 < ((15 : BitVec 8) &&& 31).toNat ∧ ((15 : BitVec 8) &&& 31).toNat < real.opSize.width.bits) ∧
      real.opSize.width.bits ≤ ((16 : BitVec 8) &&& 31).toNat := ⟨rfl, rfl, rfl, by decide, by decide⟩

theorem witness_BitTestsSelectAndChangeOneBit :
    real.plain ∧ LockFits (prefixed real .lock) (.mem topWord) ∧
      real.memRead (real.eaSeg topWord) real.opSize.width (real.eaOff topWord) = .ok 0 ∧
      real.writeCheck (real.eaSeg topWord) (real.eaOff topWord) real.opSize.width.bytes = .ok () ∧
      BitOp.set ≠ .test := ⟨rfl, .inr ⟨rfl, _, rfl⟩, rfl, rfl, by decide⟩

theorem witness_BitScansFindLowestAndHighest :
    real.plain ∧ real.readRM real.opSize.width (.mem topWord) = .ok 0 ∧
      (withGpr real fun g => { g with ebx := 0x8000 }).readRM .w16 (.reg .ebx) = .ok 0x8000 := ⟨rfl, rfl, rfl⟩

theorem witness_SetOnConditionStoresOneOrZero :
    real.plain ∧ real.checkRM .b8 (.mem topByte) = .ok () ∧ Condition real.flags 1 ∧ ¬ Condition real.flags 0 :=
  ⟨rfl, rfl, rfl, show ¬ real.flags.ofl = true by decide⟩

theorem witness_MultiplicationsGiveFullOrCutProduct :
    real.plain ∧ real.readRM .b8 (.mem topByte) = .ok 0 ∧ real.readRM .w16 (.mem topWord) = .ok 0 := ⟨rfl, rfl, rfl⟩

/-- The largest dividend whose quotient fits a byte, and the next; both ends of the signed range. -/
theorem witness_DivisionsGiveQuotientAndRemainderOrInterrupt0 :
    let s (a b : BitVec 32) := withGpr real fun g => { g with eax := a, ebx := b }
    (s 0 0).plain ∧ (s 0xFEFF 0xFF).readRM .b8 (.reg .ebx) = .ok 0xFF ∧ (s 0xFEFF 0xFF).dividend .b8 / 0xFF < 2 ^ 8 ∧
      2 ^ 8 ≤ (s 0xFF00 0xFF).dividend .b8 / 0xFF ∧ (s 0 0).readRM .b8 (.reg .ebx) = .ok 0 ∧
      (s 0xC080 0x80).signedDividend .b8 / (-128) = 127 ∧ (s 0xC000 0x80).signedDividend .b8 / (-128) = 128 ∧
      (s 0x4000 0x80).signedDividend .b8 / (-128) = -128 := by
  refine ⟨rfl, rfl, ?_, ?_, rfl, ?_, ?_, ?_⟩ <;> decide +kernel

theorem witness_DecimalAdjustmentsFollowTheirRules :
    let s (a : BitVec 32) := withGpr real fun g => { g with eax := a }
    (s 0).plain ∧ 9 < ((s 10).reg .b8 .eax &&& 0x0F).toNat ∧
      ¬ (9 < ((s 9).reg .b8 .eax &&& 0x0F).toNat ∨ (s 9).flags.af = true) ∧ 0x9F < ((s 0xA0).reg .b8 .eax).toNat ∧
      ¬ (0x9F < ((s 0x99).reg .b8 .eax).toNat ∨ (s 0x99).flags.cf = true) := by
  refine ⟨rfl, ?_, ?_, ?_, ?_⟩ <;> decide +kernel

theorem witness_MovesStoreTheirSource :
    real.plain ∧ real.checkRM .w16 (.mem topWord) = .ok () ∧ real.checkRM .b8 (.reg .ebx) = .ok () ∧
      real.writeCheck (real.dataSeg .ds) (VImm.w16 0xFFFF).zext Width.b8.bytes = .ok () := ⟨rfl, rfl, rfl, rfl⟩

theorem witness_LoadsWriteOneRegister :
    real.plain ∧ real.readRM .b8 (.mem topByte) = .ok 0 ∧ real.readRM .w16 (.mem topWord) = .ok 0 ∧
      real.memRead (real.dataSeg .ds) .b8 (VImm.w16 0xFFFF).zext = .ok 0 ∧
      real.memRead (real.dataSeg .ds) .b8
        (addOffset real.addrSize (real.eReg real.addrSize .ebx) ((real.reg .b8 .eax).setWidth 32)) = .ok 0 :=
  ⟨rfl, rfl, rfl, rfl, rfl⟩

theorem witness_ExchangesSwapTheirOperands :
    real.plain ∧ LockFits (prefixed real .lock) (.mem topWord) ∧ real.readDest .w16 (.mem topWord) = .ok 0 :=
  ⟨rfl, .inr ⟨rfl, _, rfl⟩, rfl⟩

/-- The null selector, descriptors of the GDT, and the first selector beyond its limit. -/
theorem witness_SegmentLoadsCheckTheirSelector :
    let s := gdt (flat 0)
    real.protectedMode = false ∧ s.protectedMode = true ∧ (3 : BitVec 16) &&& 0xFFFC = 0 ∧
      s.descOf? 0xF8 = .ok (some ⟨0, 0⟩) ∧ s.descOf? 0x100 = .ok none ∧ s.descOf? 4 = .ok none ∧
      s.descOf? 0x10 = .ok (some dataDesc) ∧ s.descOf? 0x20 = .ok (some absentDesc) ∧ SReg.ds ≠ .ss := by
  refine ⟨rfl, rfl, ?_, ?_, ?_, ?_, ?_, ?_, ?_⟩ <;> decide +kernel

theorem witness_SegmentRegisterLoadsTakeCheckedSelector :
    real.plain ∧ real.readRM .w16 (.mem topWord) = .ok 0 ∧ real.checkSeg .ss 0 = .ok (.real 0) ∧
      (flat 0).readRM .w16 (.reg .eax) = .ok 0 ∧ (flat 0).checkSeg .ds 0 = .ok (.null 0) ∧
      (withGpr real fun g => { g with esp := 0xFFFE }).stackItem .s16 0 = .ok 0 ∧
      real.farPtr topDword = .ok (0, 0) := ⟨rfl, rfl, rfl, rfl, rfl, rfl, rfl⟩

theorem witness_SegmentRegisterStoresGiveSelector :
    real.plain ∧ SReg.ofCode 5 = some .gs ∧ real.checkRM .w16 (.mem topWord) = .ok () ∧ NoWrap real ∧ PushFits real :=
  ⟨rfl, rfl, rfl, .inr (by decide +kernel), rfl⟩

/-- A word pushed to offset 0, one pushed below SP = 0, and one that straddles the top of the stack. -/
theorem witness_PushesStoreBelowTheStackTop :
    let s (sp : BitVec 32) := withGpr real fun g => { g with esp := sp }
    real.plain ∧ NoWrap (s 2) ∧ PushFits (s 2) ∧ NoWrap real ∧ PushFits real ∧ NoWrap (flat 0) ∧ PushFits (flat 0) ∧
      real.readRM real.opSize.width (.mem topWord) = .ok 0 ∧ ¬ ((v86 3).v86Mode = true ∧ (v86 3).flags.iopl < 3) ∧
      ¬ NoWrap (s 1) := by
  unfold NoWrap
  refine ⟨rfl, .inr ?_, rfl, .inr ?_, rfl, .inl rfl, rfl, rfl, ?_, ?_⟩ <;> decide +kernel

theorem witness_PopsTakeTheStackTop :
    let s := withGpr real fun g => { g with esp := 0xFFFE }
    s.plain ∧ s.stackItem s.opSize 0 = .ok 0 ∧
      (s.dropStack (BitVec.ofNat 32 s.opSize.bytes)).checkRM s.opSize.width (.mem topWord) = .ok () ∧
      ¬ (s.v86Mode = true ∧ s.flags.iopl < 3) := ⟨rfl, rfl, rfl, by decide +kernel⟩

/-- Eight words down to offset 0, eight words up to offset FFFFH, and the odd values of SP that PUSHA cannot use. -/
theorem witness_PushAllAndPopAll :
    let s := withGpr real fun g => { g with esp := 0x10 }
    let u := withGpr real fun g => { g with esp := 0xFFF0 }
    let o (sp : BitVec 32) := withGpr real fun g => { g with esp := sp }
    s.plain ∧ s.ctrl.cr0.pg = false ∧ s.mem.wf = true ∧ s.pushAllRoom = true ∧ u.plain ∧
      (∀ k : Fin 8, u.stackItem u.opSize (k.val * u.opSize.bytes) = .ok 0) ∧ (o 5).protectedMode = false ∧
      (o 5).reg .w16 .esp ∈ [(1 : BitVec 16), 3, 5] ∧ (o 7).reg .w16 .esp ∈ [(7 : BitVec 16), 9, 11, 13, 15] :=
  ⟨rfl, rfl, rfl, rfl, rfl, by decide +kernel, rfl, by decide +kernel, by decide +kernel⟩

/-- A frame of level 2 that ends at offset 0 in real mode; one in Protected Mode whose stack pointer ends at 0; an item
beyond the limit of SS, and a stack pointer that local variables move beyond it; a frame pointer at the last word. -/
theorem witness_EnterAndLeaveMoveTheFrame :
    let s := withGpr real fun g => { g with esp := 6, ebp := 2 }
    let p (sp : BitVec 32) := withGpr { flat 0 with segs := { (flat 0).segs with ss :=
      { (flat 0).segs.ss with limit := 0xFFF } } } fun g => { g with esp := sp, ebp := 4 }
    let item (s : State) (k : Nat) := s.pushOffset ((k + 1) * s.opSize.bytes)
    let outer (s : State) := (s.setEReg s.opSize .ebp
      (s.eReg s.opSize .ebp - BitVec.ofNat 32 (1 * s.opSize.bytes))).eReg s.opSize .ebp
    let top (s : State) (l : Nat) (n : BitVec 16) := truncSize s.stackSize
      (s.eReg s.stackSize .esp - BitVec.ofNat 32 ((l + 1) * s.opSize.bytes) - n.setWidth 32)
    s.plain ∧ s.ctrl.cr0.pg = false ∧ s.protectedMode = false ∧ s.mem.wf = true ∧
      (∀ k, k ≤ 2 → s.accessOk .ss (item s k) s.opSize.bytes true = true) ∧
      (∀ k, k ≤ 2 → (item s k).toNat + s.opSize.bytes ≤ 2 ^ 16) ∧
      s.accessOk .ss (outer s) s.opSize.bytes false = true ∧
      (p 12).plain ∧ (p 12).protectedMode = true ∧
      (∀ k, k ≤ 2 → (p 12).accessOk .ss (item (p 12) k) (p 12).opSize.bytes true = true) ∧
      (p 12).accessOk .ss (outer (p 12)) (p 12).opSize.bytes false = true ∧
      (p 12).segs.ss.inLimit (top (p 12) 2 0).toNat 1 = true ∧
      (p 11).accessOk .ss (item (p 11) 2) (p 11).opSize.bytes true = false ∧
      (p 12).segs.ss.inLimit (top (p 12) 2 1).toNat 1 = false ∧
      (withGpr real fun g => { g with ebp := 0xFFFE }).memRead .ss .w16 0xFFFE = .ok 0 := by
  refine ⟨rfl, rfl, rfl, rfl, ?_, ?_, ?_, rfl, rfl, ?_, ?_, ?_, ?_, ?_, rfl⟩ <;> decide +kernel

theorem witness_FlagInstructionsChangeNamedFlags : real.plain := rfl

theorem witness_InterruptFlagNeedsPrivilege :
    real.plain ∧ MayChangeIf real ∧ (flat 3).plain ∧ ¬ MayChangeIf (flat 3) :=
  ⟨rfl, .inl rfl, rfl, by unfold MayChangeIf; decide +kernel⟩

/-- A task state segment whose permission bitmap is its last word, 0066H: it denies port 1 and allows port 0. -/
def bitmapped : State := withBytes (flat 3) 0x5066 [0x66, 0]

/-- The same with an offset of the bitmap that leaves one byte of it. -/
def shortBitmap : State := withBytes (flat 3) 0x5066 [0x67, 0]

theorem asksBitmap_bitmapped : AsksBitmap bitmapped := ⟨rfl, .inr (by decide +kernel)⟩

theorem not_asksBitmap (s : State) (h : s.ctrl.cr0.pe = false) : ¬ AsksBitmap s := fun k =>
  Bool.false_ne_true (h.symm.trans k.1)

/-- The bitmap word of `bitmapped`, the last of its task state segment. -/
theorem tssWord_bitmapped : TssWord bitmapped 0x66 0x66 := ⟨rfl, by decide +kernel, by decide +kernel⟩

theorem bitmapAllows_port0 : BitmapAllows bitmapped 0 1 :=
  ⟨rfl, 0x66, 0x66, tssWord_bitmapped, tssWord_bitmapped, by
    intro k h
    obtain rfl : k = 0 := by omega
    decide +kernel⟩

theorem portDenied_port1 : PortDenied bitmapped 1 1 :=
  ⟨asksBitmap_bitmapped, .inr ⟨0x66, tssWord_bitmapped, .inr ⟨0x66, 0, tssWord_bitmapped, by decide, by decide +kernel⟩⟩⟩

theorem portDenied_beyondTheLimit : PortDenied shortBitmap 0 1 :=
  ⟨⟨rfl, .inr (by decide +kernel)⟩,
    .inr ⟨0x67, ⟨rfl, by decide +kernel, by decide +kernel⟩, .inl (by decide +kernel)⟩⟩

/-- The last port, where the bitmap is not asked; ports that it allows and denies. -/
theorem witness_PortAccessesMoveTheAccumulator :
    let s := withGpr real fun g => { g with edx := 0xFFFF }
    s.plain ∧ (s.reg .w16 .edx).toNat + Width.b8.bytes ≤ 2 ^ 16 ∧ PortAllowed s 0xFFFF 1 ∧
      PortAllowed (flat 0) 0 4 ∧ bitmapped.plain ∧ PortAllowed bitmapped 0 1 ∧ PortDenied bitmapped 1 1 ∧
      PortDenied shortBitmap 0 1 :=
  ⟨rfl, by decide +kernel, .inl (not_asksBitmap _ rfl), .inl (by unfold AsksBitmap; decide +kernel), rfl,
    .inr bitmapAllows_port0, portDenied_port1, portDenied_beyondTheLimit⟩

theorem witness_StringElements :
    let s := withGpr real fun g => { g with esi := 0xFFFF, edi := 0xFFFF, edx := 0xFFFF }
    s.plain ∧ s.memRead (s.dataSeg .ds) .b8 (s.eReg s.addrSize .esi) = .ok 0 ∧
      s.writeCheck .es (s.eReg s.addrSize .edi) 1 = .ok () ∧ s.memRead .es .b8 (s.eReg s.addrSize .edi) = .ok 0 ∧
      (s.reg .w16 .edx).toNat + 1 ≤ 2 ^ 16 ∧ PortAllowed s (s.reg .w16 .edx) 1 ∧ bitmapped.plain ∧
      PortAllowed bitmapped 0 1 ∧ PortDenied bitmapped 1 1 :=
  ⟨rfl, rfl, rfl, rfl, by decide +kernel, .inl (not_asksBitmap _ rfl), rfl, .inr bitmapAllows_port0,
    portDenied_port1⟩

theorem witness_RepeatedStringsCountDownAndStop :
    let s := prefixed (withGpr real fun g => { g with ecx := 1 }) .rep
    (prefixed real .rep).seq.pfx.group = some .rep ∧ (prefixed real .rep).eReg real.addrSize .ecx = 0 ∧
      s.eReg s.addrSize .ecx ≠ 0 ∧ (∃ u, State.movsOne .b8 s = .ok u) ∧ ∃ u, State.cmpsOne .b8 s = .ok u :=
  ⟨rfl, rfl, by decide +kernel, ⟨_, rfl⟩, ⟨_, rfl⟩⟩

/-- A flat state whose code segment ends at 10FFH. -/
def shortCs : State := { flat 0 with segs := { (flat 0).segs with cs := { (flat 0).segs.cs with limit := 0x10FF } } }

theorem witness_ConditionalTransfers :
    shortCs.plain ∧ Condition shortCs.flags 1 ∧ InReach shortCs (target shortCs 0xFF) ∧
      ¬ InReach shortCs (target shortCs 0x100) ∧ ¬ Condition shortCs.flags 0 ∧
      shortCs.eReg shortCs.addrSize .ecx = 0 ∧
      (withGpr shortCs fun g => { g with ecx := 1 }).eReg shortCs.addrSize .ecx = 1 := by
  unfold InReach
  refine ⟨rfl, rfl, ?_, ?_, show ¬ shortCs.flags.ofl = true by decide, rfl, rfl⟩ <;> decide +kernel

theorem witness_NearTransfers :
    shortCs.plain ∧ InReach shortCs (target shortCs 0xFF) ∧ PushFits shortCs ∧
      (withGpr shortCs fun g => { g with ebx := 0x10FF }).readRM .d32 (.reg .ebx) = .ok 0x10FF ∧ InReach shortCs 0x10FF ∧
      ¬ InReach shortCs 0x1100 ∧ shortCs.stackItem shortCs.opSize 0 = .ok 0 := by
  unfold InReach
  refine ⟨rfl, ?_, rfl, rfl, ?_, ?_, rfl⟩ <;> decide +kernel

/-- The last offset that a far CALL takes is FFFFH, the first that it does not 10000H. -/
theorem witness_RealModeFarTransfersLoadCs :
    let s := withGpr real fun g => { g with esp := 4 }
    s.plain ∧ s.protectedMode = false ∧ s.farPtr topDword = .ok (0, 0) ∧ s.ctrl.cr0.pg = false ∧
      (VImm.w32 0xFFFF).zext.toNat ≤ 0xFFFF ∧ 0xFFFF < (VImm.w32 0x10000).zext.toNat ∧
      s.accessOk .ss (s.pushOffset s.opSize.bytes) s.opSize.bytes true = true ∧
      s.accessOk .ss (s.pushOffset (2 * s.opSize.bytes)) s.opSize.bytes true = true ∧ s.stackItem s.opSize 0 = .ok 0 ∧
      s.stackItem s.opSize s.opSize.bytes = .ok 0 :=
  ⟨rfl, rfl, rfl, rfl, by decide +kernel, by decide +kernel, rfl, rfl, rfl, rfl⟩

/-- `Room` of a concrete state. -/
theorem room_of_all (s : State) (n k : Nat)
    (h : ((List.range (k + 1)).all fun j => j == 0 || s.accessOk .ss (s.pushOffset (n * j)) n true) = true) :
    Room s n k := by
  intro j h1 hk
  have := List.all_eq_true.1 h j (List.mem_range.2 (by omega))
  simpa [show j ≠ 0 by omega] using this

/-- The descriptors of `gdt`, and at index 8 a call gate of level 3 with one parameter to 0008:00002000. -/
def gated (s : State) : State := withBytes (gdt s) 0x3040 [0, 0x20, 8, 0, 1, 0xEC, 0, 0]

/-- The gate of `gated`. -/
def callGateDesc : Desc := ⟨0x00082000, 0x0000EC01⟩

/-- R234, R106: the parameter of a call gate, here a 16-bit one, is read after the old SS and SP are pushed, which here
overwrite it. -/
theorem test_call_gate_copies_after_pushing : run (withBytes (withBytes (gated (idt { flat 3 with gpr := { (flat 3).gpr with esp := 0x7FFC } })) 0x3045 [0xE4]) 0x6000 [0, 0, 0, 0, 0x43, 0]) [0xFF, 0x1D, 0, 0x60, 0, 0]
    (fun t => (t.segs.cs.sel, t.eip, t.gpr.esp, bytesAt t 0x7FFA 6)) = some ((8, 0x2000, 0x7FF6, [0xFC, 0x7F, 0xFC, 0x7F, 0x13, 0])) := by decide +kernel

theorem witness_ProtectedFarTransfersAtOneLevel :
    let s := withBytes (gdt (flat 0)) 0x1000 [0xFF, 0xFF, 0xFF, 0xFF, 8, 0, 0, 0]
    s.plain ∧ s.protectedMode = true ∧ s.descOf? 8 = .ok (some codeDesc) ∧ (8 : BitVec 16) &&& 0xFFFC ≠ 0 ∧
      codeDesc.isCode = true ∧ OfLevel s codeDesc ∧ codeDesc.present = true ∧ 0xFFFFFFFF ≤ codeDesc.limit ∧
      rpl 8 = s.cpl ∧ FarJmp s (.jmpFarM (.mem (.a32abs 0x1000))) 8 0xFFFFFFFF ∧
      FarCall s (.callFar (.w32 0x2000) 8) 8 0x2000 ∧ s.ctrl.cr0.pg = false ∧
      s.accessOk .ss (s.pushOffset (2 * s.opSize.bytes)) (2 * s.opSize.bytes) true = true ∧
      s.accessOk .ss (s.pushOffset s.opSize.bytes) s.opSize.bytes true = true ∧
      s.stackItem s.opSize 0 = .ok 0xFFFFFFFF ∧
      s.memRead .ss .w16 (addOffset s.stackSize (s.eReg s.stackSize .esp) (BitVec.ofNat 32 s.opSize.bytes)) = .ok 8 := by
  unfold OfLevel
  refine ⟨rfl, rfl, ?_, ?_, ?_, ?_, ?_, ?_, ?_, .inr ⟨_, rfl, ?_⟩, .inl ⟨_, rfl, ?_⟩, rfl, ?_, ?_, ?_, ?_⟩ <;>
    decide +kernel

/-- Conforming code of level 0 is of level 3 too, and a call gate of level 3 leads to it or to code of level 3. -/
theorem witness_ProtectedFarTransfersAtOneLevel_gate :
    let s := gated (flat 3)
    let c := withBytes s 0x3008 [0xFF, 0xFF, 0, 0, 0, 0x9E]
    let u := withBytes s 0x3008 [0xFF, 0xFF, 0, 0, 0, 0xFA]
    let conforming : Desc := ⟨0x0000FFFF, 0x00CF9E00⟩
    let user : Desc := ⟨0x0000FFFF, 0x00CFFA00⟩
    s.plain ∧ s.protectedMode = true ∧ c.descOf? 8 = .ok (some conforming) ∧ OfLevel c conforming ∧
      CallGateFor c 0x43 callGateDesc conforming ∧ CallGateFor u 0x43 callGateDesc user ∧ OfLevel u user ∧
      FarJmp c (.jmpFar (.w32 0) 0x43) 0x43 0 ∧ FarCall c (.callFar (.w32 0) 0x43) 0x43 0 ∧ s.ctrl.cr0.pg = false ∧
      s.segs.ss.stackRoom (s.eReg s.stackSize .esp) (2 * callGateDesc.gateSize.bytes) = true ∧
      Room s callGateDesc.gateSize.bytes 2 := by
  unfold OfLevel CallGateFor
  refine ⟨rfl, rfl, ?_, ?_, ?_, ?_, ?_, .inl ⟨_, rfl, rfl⟩, .inl ⟨_, rfl, rfl⟩, rfl, ?_,
    room_of_all _ _ _ (by decide +kernel)⟩ <;> decide +kernel

theorem witness_FarJumpChecksRaiseTheirExceptions :
    let s := gdt (flat 0)
    s.plain ∧ s.protectedMode = true ∧ s.descOf? 0x100 = .ok none ∧ s.descOf? 0x10 = .ok (some dataDesc) ∧
      dataDesc.isData = true ∧ s.descOf? 0xB = .ok (some codeDesc) ∧ s.cpl < rpl 0xB ∧
      (∃ d : Desc, d.isCode = true ∧ d.ce = true ∧ s.cpl < d.dpl) ∧
      ∃ d : Desc, d.isCode = true ∧ d.ce = false ∧ d.dpl = s.cpl ∧ d.present = true ∧ d.limit < 0x10000 := by
  refine ⟨rfl, rfl, ?_, ?_, ?_, ?_, ?_, ⟨⟨0, 0xFE00⟩, ?_⟩, ⟨⟨0xFFFF, 0x9A00⟩, ?_⟩⟩ <;> decide +kernel

/-- No word of a concrete state straddles the top of the stack. -/
theorem whole_of_all (s : State) (k : Nat)
    (h : ((List.range (k + 1)).all fun j => j == 0 || decide ((s.pushOffset (2 * j)).toNat + 2 ≤ 2 ^ 16)) = true) :
    ∀ j, 1 ≤ j → j ≤ k → (s.pushOffset (2 * j)).toNat + 2 ≤ 2 ^ 16 := by
  intro j h1 hk
  have := List.all_eq_true.1 h j (List.mem_range.2 (by omega))
  simpa [show j ≠ 0 by omega] using this

/-- Vector FFH is the last of the IDT at reset; SP = 6 leaves room for three words; at SP = 5 the third word straddles the
top of the stack, at SP = 1 the first; with a limit of SS kept at 7FFFH the second word lies beyond it at SP = 8003H. -/
theorem witness_RealModeInterruptEntry :
    let s (sp : BitVec 32) := withGpr real fun g => { g with esp := sp }
    let l := withGpr { real with segs := { real.segs with ss := { real.segs.ss with limit := 0x7FFF } } } fun g =>
      { g with esp := 0x8002 }
    let whole (s : State) (k : Nat) : Prop := ∀ j, 1 ≤ j → j ≤ k → (s.pushOffset (2 * j)).toNat + 2 ≤ 2 ^ 16
    (s 6).plain ∧ SoftInt (s 6) (.intN 0xFF) 0xFF ∧ (s 6).realMode = true ∧ (s 6).ctrl.cr0.pg = false ∧
      (Room (s 6) 2 3 ∧ whole (s 6) 3) ∧ (0xFF : BitVec 8).toNat * 4 + 3 ≤ (s 6).tables.idtr.limit.toNat ∧
      (Room (s 5) 2 2 ∧ whole (s 5) 2 ∧ ¬ whole (s 5) 3) ∧ (Room (s 1) 2 0 ∧ ¬ whole (s 1) 1) ∧
      (Room l 2 0 ∧ whole l 1 ∧ ¬ Room l 2 1) ∧ real.flags.ofl = false ∧
      ({ s 6 with tables := { (s 6).tables with idtr := { base := 0, limit := 0x3FE } } } :
        State).tables.idtr.limit.toNat < (0xFF : BitVec 8).toNat * 4 + 3 := by
  refine ⟨rfl, .inr (.inl ⟨rfl, by decide +kernel⟩), rfl, rfl, ⟨room_of_all _ _ _ (by decide +kernel), ?_⟩,
    by decide +kernel, ⟨room_of_all _ _ _ (by decide +kernel), ?_, ?_⟩, ⟨room_of_all _ _ _ (by decide +kernel), ?_⟩,
    ⟨room_of_all _ _ _ (by decide +kernel), ?_, ?_⟩, rfl, by decide +kernel⟩
  · exact fun j h1 h3 => whole_of_all _ 3 (by decide +kernel) j h1 h3
  · exact fun j h1 h3 => whole_of_all _ 2 (by decide +kernel) j h1 h3
  · exact fun h => absurd (h 3 (by decide) (by decide)) (by decide +kernel)
  · exact fun h => absurd (h 1 (by decide) (by decide)) (by decide +kernel)
  · exact fun j h1 h3 => whole_of_all _ 1 (by decide +kernel) j h1 h3
  · exact fun h => absurd (h 1 (by decide) (by decide)) (by decide +kernel)

theorem witness_InterruptGateChecksRaiseTheirExceptions :
    let s := idt (flat 3)
    s.plain ∧ s.ctrl.cr0.pe = true ∧ SoftInt s .int3 3 ∧
      (3 : BitVec 8).toNat * 8 + 7 ≤ s.tables.idtr.limit.toNat ∧
      s.descAt (s.tables.idtr.base + (3 : BitVec 8).setWidth 32 * 8) = .ok gateDesc ∧
      s.descAt (s.tables.idtr.base + (5 : BitVec 8).setWidth 32 * 8) = .ok ⟨0, 0⟩ ∧
      (∃ g : Desc, g.isSeg = false ∧ g.typ = 14 ∧ g.present = false ∧ s.cpl ≤ g.dpl) ∧
      ({ s with tables := { s.tables with idtr := { base := 0, limit := 0x1E } } } : State).tables.idtr.limit.toNat <
        (3 : BitVec 8).toNat * 8 + 7 ∧ (v86 2).v86Mode = true ∧ (v86 2).flags.iopl < 3 := by
  refine ⟨rfl, rfl, .inl ⟨rfl, rfl⟩, ?_, ?_, ?_, ⟨⟨0, 0x6E00⟩, ?_⟩, ?_, ?_, ?_⟩ <;> decide +kernel

theorem witness_GateEntryAtOneLevel :
    let s := gdt (idt (flat 0))
    s.protectedMode = true ∧ s.ctrl.cr0.pg = false ∧ GateFor s (softEvent 3) gateDesc codeDesc ∧
      codeDesc.dpl = s.cpl ∧ s.segs.ss.stackRoom (s.eReg s.stackSize .esp) (gateDesc.gateSize.bytes * 3) = true ∧
      Room s gateDesc.gateSize.bytes 3 ∧ s.plain ∧ SoftInt s .int3 3 := by
  refine ⟨rfl, rfl, ?_, ?_, ?_, room_of_all _ _ _ (by decide +kernel), rfl, .inl ⟨rfl, rfl⟩⟩
  · unfold GateFor; decide +kernel
  · decide +kernel
  · decide +kernel

theorem witness_GateEntryToInnerLevelSwitchesStacks :
    let s := gdt (idt (flat 3))
    let a := ((s.setSeg .cs { codeDesc.toSeg 8 with sel := withRpl 8 codeDesc.dpl }).setSeg .ss
      (dataDesc.toSeg 0x10)).setEReg (sizeOf32 (dataDesc.toSeg 0x10).db) .esp 0x8000
    s.protectedMode = true ∧ s.ctrl.cr0.pg = false ∧ GateFor s (softEvent 3) gateDesc codeDesc ∧
      codeDesc.ce = false ∧ codeDesc.dpl < s.cpl ∧ InnerStack s codeDesc.dpl 0 0x10 0x8000 dataDesc ∧
      (dataDesc.toSeg 0x10).stackRoom 0x8000 (gateDesc.gateSize.bytes * 5) = true ∧
      Room a gateDesc.gateSize.bytes 5 ∧ s.plain ∧ SoftInt s .int3 3 := by
  refine ⟨rfl, rfl, ?_, ?_, ?_, ?_, ?_, room_of_all _ _ _ (by decide +kernel), rfl, .inl ⟨rfl, rfl⟩⟩
  · unfold GateFor; decide +kernel
  · decide +kernel
  · decide +kernel
  · unfold InnerStack; decide +kernel
  · decide +kernel

/-- A call from level 3 through the gate of `gated`, whose parameter is the doubleword at the top of the stack. -/
theorem witness_GateEntryToInnerLevelSwitchesStacks_call :
    let s := gated (idt (flat 3))
    let a := ((s.setSeg .cs { codeDesc.toSeg 8 with sel := withRpl 8 codeDesc.dpl }).setSeg .ss
      (dataDesc.toSeg 0x10)).setEReg (sizeOf32 (dataDesc.toSeg 0x10).db) .esp 0x8000
    s.plain ∧ s.protectedMode = true ∧ s.ctrl.cr0.pg = false ∧ FarCall s (.callFar (.w32 0) 0x43) 0x43 0 ∧
      CallGateFor s 0x43 callGateDesc codeDesc ∧ codeDesc.ce = false ∧ codeDesc.dpl < s.cpl ∧
      InnerStack s codeDesc.dpl 0 0x10 0x8000 dataDesc ∧ callGateDesc.gateCount = 1 ∧
      (dataDesc.toSeg 0x10).stackRoom 0x8000 (callGateDesc.gateSize.bytes * 5) = true ∧
      Room a callGateDesc.gateSize.bytes 5 ∧
      s.accessOk .ss (addOffset s.stackSize (s.eReg s.stackSize .esp) 0) callGateDesc.gateSize.bytes false = true := by
  unfold CallGateFor InnerStack
  refine ⟨rfl, rfl, rfl, .inl ⟨_, rfl, rfl⟩, ?_, ?_, ?_, ?_, ?_, ?_, room_of_all _ _ _ (by decide +kernel), ?_⟩ <;>
    decide +kernel

theorem witness_V86InterruptEntersLevel0 :
    let s := gdt (idt (v86 3))
    let a := (({ s with flags := { gateFlags s.flags gateDesc with vm := false } }.setSeg .cs
      { codeDesc.toSeg 8 with sel := withRpl 8 0 }).setSeg .ss (dataDesc.toSeg 0x10)).setReg .d32 .esp 0x8000
    s.v86Mode = true ∧ s.ctrl.cr0.pg = false ∧ GateFor s (softEvent 0x30) gateDesc codeDesc ∧
      gateDesc.gateSize = .s32 ∧ codeDesc.ce = false ∧ codeDesc.dpl = 0 ∧ s.tables.tr.is386 = true ∧
      InnerStack s 0 0 0x10 0x8000 dataDesc ∧ (dataDesc.toSeg 0x10).stackRoom 0x8000 36 = true ∧ Room a 4 9 ∧ s.plain ∧
      SoftInt s (.intN 0x30) 0x30 := by
  refine ⟨rfl, rfl, ?_, ?_, ?_, ?_, rfl, ?_, ?_, room_of_all _ _ _ (by decide +kernel), rfl,
    .inr (.inl ⟨rfl, by decide +kernel⟩)⟩
  · unfold GateFor; decide +kernel
  · decide +kernel
  · decide +kernel
  · decide +kernel
  · unfold InnerStack; decide +kernel
  · decide +kernel

/-- A frame whose CS selector is 0008H. -/
def framed (s : State) (fl : List Byte) : State :=
  withBytes (gdt s) 0x1000 ([0x34, 0x12, 0, 0, 8, 0, 0, 0] ++ fl)

theorem witness_InterruptReturnsPopTheFrame :
    let r := withGpr real fun g => { g with esp := 0xFFFA }
    let s := framed (flat 0) [2, 0, 0, 0]
    r.plain ∧ Frame r 0 0 0 ∧ r.realMode = true ∧ (v86 3).v86Mode = true ∧ (v86 3).flags.iopl = 3 ∧
      (v86 2).v86Mode = true ∧ (v86 2).flags.iopl < 3 ∧ s.plain ∧ Frame s 0x1234 8 2 ∧ s.protectedMode = true ∧
      s.flags.nt = false ∧ (Flags.ofImage 2).vm = false ∧ s.stackHas (3 * s.opSize.bytes) = true ∧
      s.memRead .ss .w16 (addOffset s.stackSize (s.eReg s.stackSize .esp) (BitVec.ofNat 32 s.opSize.bytes)) = .ok 8 ∧
      rpl 8 = s.cpl ∧ ReturnsTo s 8 codeDesc ∧ 0x1234 ≤ codeDesc.limit := by
  unfold Frame ReturnsTo
  refine ⟨rfl, ?_, rfl, rfl, rfl, rfl, ?_, rfl, ?_, rfl, rfl, ?_, ?_, ?_, ?_, ?_, ?_⟩ <;> decide +kernel

theorem witness_InterruptReturnsToOuterLevelAndV86 :
    let s := withBytes (gdt (flat 0)) 0x1000 [0x34, 0x12, 0, 0, 0x0B, 0, 0, 0, 2, 0, 0, 0, 0, 0x20, 0, 0, 0x1B, 0, 0, 0]
    let v := withBytes (flat 0) 0x1000 [0xFF, 0xFF, 0, 0, 0, 0x20, 0, 0, 2, 0x32, 2, 0]
    let c : Desc := ⟨0x0000FFFF, 0x00CF9E00⟩
    s.plain ∧ s.protectedMode = true ∧ s.flags.nt = false ∧ Frame s 0x1234 0x0B 2 ∧ s.stackHas 20 = true ∧
      s.stackItem .s32 12 = .ok 0x2000 ∧ s.stackItem .s32 16 = .ok 0x1B ∧ s.cpl < rpl 0x0B ∧
      ReturnsTo (withBytes s 0x3008 [0xFF, 0xFF, 0, 0, 0, 0x9E]) 0x0B c ∧ StackFor s 0x1B (rpl 0x0B) userDesc ∧
      v.opSize = .s32 ∧ v.cpl = 0 ∧ Frame v 0xFFFF 0x2000 0x00023202 ∧ (Flags.ofImage 0x00023202).vm = true ∧
      v.stackHas 36 = true ∧ ∀ k : Fin 6, v.stackItem .s32 (12 + 4 * k.val) = .ok 0 := by
  unfold Frame ReturnsTo StackFor
  refine ⟨rfl, rfl, rfl, ?_, ?_, ?_, ?_, ?_, ?_, ?_, rfl, rfl, ?_, ?_, ?_, ?_⟩ <;> decide +kernel

/-- A far RET of 4 bytes to level 3: the code selector, four bytes of parameters, and the outer stack pointer. -/
theorem witness_InterruptReturnsToOuterLevelAndV86_retFar :
    let s := withBytes (gdt (flat 0)) 0x1000 [0x34, 0x12, 0, 0, 0x0B, 0, 0, 0, 7, 0, 0, 0, 0, 0x20, 0, 0, 0x1B, 0, 0, 0]
    let c := withBytes s 0x3008 [0xFF, 0xFF, 0, 0, 0, 0xFA]
    let d : Desc := ⟨0x0000FFFF, 0x00CFFA00⟩
    c.plain ∧ c.protectedMode = true ∧ c.stackHas (4 * c.opSize.bytes + (4 : BitVec 16).toNat) = true ∧
      c.memRead .ss .w16 (addOffset c.stackSize (c.eReg c.stackSize .esp) (BitVec.ofNat 32 c.opSize.bytes)) = .ok 0x0B ∧
      c.stackItem c.opSize 0 = .ok 0x1234 ∧ c.stackItem c.opSize 12 = .ok 0x2000 ∧ c.stackItem c.opSize 16 = .ok 0x1B ∧
      c.cpl < rpl 0x0B ∧ ReturnsTo c 0x0B d ∧ (0x1234 : BitVec 32) ≤ d.limit ∧ StackFor c 0x1B (rpl 0x0B) userDesc ∧
      ¬ StaysValid { c with segs := { c.segs with cs := d.toSeg 0x0B } } c.segs.ds ∧
      StaysValid { c with segs := { c.segs with cs := d.toSeg 0x0B } } (flat 3).segs.ds := by
  unfold ReturnsTo StackFor StaysValid
  refine ⟨rfl, rfl, ?_, ?_, ?_, ?_, ?_, ?_, ?_, ?_, ?_, ?_, ?_⟩ <;> decide +kernel

theorem witness_BoundTestsItsRegister :
    let s := withBytes real 0xFFFC [0xFB, 0xFF, 5, 0]
    let bs : List Byte := [0xFB, 0xFF, 5, 0]
    s.plain ∧ s.memBytesAt (s.eaSeg topDword) (s.eaOff topDword) (2 * s.opSize.width.bytes) = .ok bs ∧
      (BitVec.ofNat 16 (leNat (bs.take 2))).toInt ≤ (5 : BitVec 16).toInt ∧
      (5 : BitVec 16).toInt ≤ (BitVec.ofNat 16 (leNat (bs.drop 2))).toInt ∧
      ¬ (6 : BitVec 16).toInt ≤ (BitVec.ofNat 16 (leNat (bs.drop 2))).toInt := by
  refine ⟨rfl, ?_, ?_, ?_, ?_⟩ <;> decide +kernel

theorem witness_SelectorProbesReportInZf :
    let s := gdt (flat 3)
    s.plain ∧ s.protectedMode = true ∧ s.readRM .w16 (.reg .eax) = .ok 0 ∧ SeesNothing s 0 ∧ SeesNothing s 0x10 ∧
      Sees s 0x1B userDesc ∧ LarTakes userDesc ∧ LslTakes userDesc ∧ ¬ LarTakes ⟨0, 0xE000⟩ ∧ ¬ LslTakes ⟨0, 0xEE00⟩ ∧
      s.readDest .w16 (.mem flatWord) = .ok 0 ∧ rpl 0 < rpl 3 := by
  unfold Sees LarTakes LslTakes
  refine ⟨rfl, rfl, rfl, .inl rfl, .inr (.inr ⟨dataDesc, ?_, ?_⟩), ?_, ?_, ?_, ?_, ?_, rfl, ?_⟩ <;> decide +kernel

theorem witness_SystemRegisterStores :
    let s := flat 3
    s.plain ∧ s.protectedMode = true ∧ s.checkRM .w16 (.mem flatWord) = .ok () ∧
      real.writeCheck (real.eaSeg (.a16abs 0xFFFA)) (real.eaOff (.a16abs 0xFFFA)) 6 = .ok () := ⟨rfl, rfl, rfl, rfl⟩

theorem witness_SystemRegisterLoads :
    let s := gdt (flat 0)
    s.plain ∧ s.cpl = 0 ∧ s.memBytesAt (s.eaSeg flatWord) (s.eaOff flatWord) 6 = .ok [0, 0, 0, 0, 0, 0] ∧
      s.protectedMode = true ∧ s.readRM .w16 (.reg .eax) = .ok 0 ∧
      (withGpr s fun g => { g with eax := 0x30 }).readRM .w16 (.reg .eax) = .ok 0x30 ∧
      s.descOf? 0x30 = .ok (some ldtDesc) ∧ ldtDesc.isSeg = false ∧ ldtDesc.typ = 2 ∧ ldtDesc.present = true ∧
      s.descOf? 0x28 = .ok (some tssDesc) ∧ tssDesc.isSeg = false ∧ tssDesc.typ = 9 ∧ tssDesc.present = true ∧
      s.physAddr .write false (s.tables.gdtr.base + ((0x28 : BitVec 16) &&& 0xFFF8).setWidth 32 + 5) = .ok 0x302D ∧
      ¬ (dataDesc.isSeg = false ∧ dataDesc.typ = 2) ∧ (⟨0, 0x0200⟩ : Desc).present = false := by
  refine ⟨rfl, rfl, ?_, rfl, rfl, rfl, ?_, ?_, ?_, ?_, ?_, ?_, ?_, ?_, ?_, ?_, ?_⟩ <;> decide +kernel

theorem witness_ControlDebugAndTestRegisters :
    real.plain ∧ real.cpl = 0 ∧ (flat 0).cpl = 0 ∧ real.readRM .w16 (.mem topWord) = .ok 0 := ⟨rfl, rfl, rfl, rfl⟩

theorem witness_HaltWaitAndEscape :
    let s (mp ts em busy err : Bool) : State :=
      { real with ctrl := { real.ctrl with cr0 := { real.ctrl.cr0 with mp := mp, ts := ts, em := em } },
                  pins := { real.pins with busy := busy, error := err } }
    (s false false false false false).plain ∧ (s false false false false false).cpl = 0 ∧
      (s true true false false false).ctrl.cr0.ts = true ∧ (s true false false true true).pins.error = true ∧
      (s false true false true false).pins.busy = true ∧ (s false false true false false).ctrl.cr0.em = true ∧
      real.memBytesAt (real.eaSeg topByte) (real.eaOff topByte) 1 = .ok [0] := ⟨rfl, rfl, rfl, rfl, rfl, rfl, rfl⟩

theorem witness_PrefixesJoinTheInstruction :
    real.seq.pfx.seg = none ∧ real.seq.pfx.group = none ∧ (prefixed real .lock).seq.pfx.group = some .lock ∧
      GroupPrefix.lock ≠ .rep ∧ real.seq.pfx.opsize = false := ⟨rfl, rfl, rfl, by decide, rfl⟩

theorem witness_MisusedPrefixesAreUndefinedOpcodes :
    isPrefixRow .nop = false ∧ (prefixed real .lock).seq.pfx.group = some .lock ∧
      (∀ ea r i8 iv, Instr.nop ∉ lockable (prefixed real .lock) ea r i8 iv) ∧
      (∀ j ∈ repForms real ++ repeForms real, Instr.nop ≠ j.1) ∧ ∀ j ∈ repeForms real, Instr.movsB ≠ j.1 := by
  refine ⟨by decide +kernel, rfl, ?_, ?_, ?_⟩
  · intro ea r i8 iv
    simp [lockable, rmForms, bitImmForm, bitRegForm]
  · simp [repForms, repeForms]
  · simp [repeForms]

theorem witness_ModeAndPrivilegeChecks :
    real.plain ∧ real.protectedMode = false ∧ (v86 3).protectedMode = false ∧ (v86 3).cpl ≠ 0 ∧ (flat 1).plain ∧
      (flat 1).cpl ≠ 0 ∧ (flat 1).protectedMode = true := by
  refine ⟨rfl, rfl, rfl, ?_, rfl, ?_, rfl⟩ <;> decide +kernel

theorem witness_OuterLevelsKeepSystemRegisters :
    (flat 3).cpl ≠ 0 ∧ exec .clc (flat 3) = .next { flat 3 with flags := { (flat 3).flags with cf := false } } :=
  ⟨by decide +kernel, rfl⟩

theorem witness_WritesAreReadBackLittleEndian :
    real.mem.wf = true ∧ real.ctrl.cr0.pg = false ∧ ∃ t, real.memWrite .ds .d32 0xFFFC 0x12345678 = .ok t :=
  ⟨rfl, rfl, _, rfl⟩

theorem witness_ResetGivesTheTableOfValues : ({ flat 3 with pins := { real.pins with reset := true } } : State).pins.reset
    = true := rfl

theorem witness_BoundaryEventsAreTakenInOrder :
    real.pins.reset = false ∧ real.shutDown.seq.shutdown = true ∧ real.seq.shutdown = false ∧
      ({ real with pins := { real.pins with nmi := true } } : State).pins.nmi = true ∧ real.seq.nmiBlocked = false ∧
      real.seq.inhibit ≠ .all ∧ ({ real with pins := { real.pins with intr := some 0xFF } } : State).pins.intr = some 0xFF ∧
      ({ real with flags := { real.flags with intf := true } } : State).flags.intf = true ∧ real.seq.inhibit = .none ∧
      ({ real with seq := { real.seq with halted := true } } : State).seq.halted = true :=
  ⟨rfl, rfl, rfl, rfl, rfl, by decide, rfl, rfl, rfl, rfl⟩

/-- Exceptions and an interrupt whose IDT entries are absent. -/
theorem witness_DeliveryFailuresEscalate :
    let z (v : BitVec 8) (x : Bool) : Event := { vec := v, code := none, ext := false, software := false, exception := x }
    (∃ t, real.enter (z 0 true) = .ok t) ∧ (flat 0).enter (z 13 true) = .error (.exc (excGP (13 * 8 + 2))) ∧
      (flat 0).enter (z 14 true) = .error (.exc (excGP (14 * 8 + 2))) ∧
      (flat 0).enter (z 8 true) = .error (.exc (excGP (8 * 8 + 2))) ∧
      (flat 0).enter (z 6 true) = .error (.exc (excGP (6 * 8 + 2))) ∧
      (flat 0).enter (z 32 false) = .error (.exc (excGP (32 * 8 + 2))) := by
  refine ⟨⟨_, rfl⟩, ?_, ?_, ?_, ?_, ?_⟩ <;> decide +kernel

/-- A NOP without a prefix and one behind an operand-size prefix. -/
theorem witness_StepRunsDecodedInstruction :
    let s := real.placeInstr [0x90]
    let p := real.placeInstr [0x66, 0x90]
    s.quiet ∧ (∃ u, Reads 0 s.beginInstr .nop u ∧ exec .nop u = .next u) ∧ p.quiet ∧ ∃ u, Reads 1 p.beginInstr .nop u := by
  refine ⟨⟨rfl, rfl, rfl, .inl rfl, rfl⟩, ⟨_, ⟨rfl, 1, ?_, rfl⟩, rfl⟩, ⟨rfl, rfl, rfl, .inl rfl, rfl⟩,
    _, .opsize, 1, _, rfl, ?_, rfl, rfl, 1, ?_, rfl⟩ <;> decide +kernel

theorem witness_DecodeOfEncodeIsIdentity :
    (Instr.addRmvImmv (.mem (.sib 3 (some .edi) .ebp (.full 0xFFFFFFFF))) (.w32 0xFFFFFFFF)).wellFormed .s32 .s32 =
      true := by decide +kernel

/-- Two bytes that end at the limit of CS. -/
theorem witness_FetchDecodesTheEncodedInstruction :
    let s := { real with eip := 0xFFFE }.placeInstr [0xCD, 0x21]
    s.ctrl.cr0.pg = false ∧ (Instr.intN 0x21).wellFormed s.opSize s.addrSize = true ∧ CodeIs s (encode (.intN 0x21)) := by
  refine ⟨rfl, by decide +kernel, ?_⟩
  rw [show encode (.intN 0x21) = [0xCD, 0x21] by decide +kernel]
  refine ⟨by decide +kernel, ?_⟩
  intro k b h
  rcases k with _ | _ | k
  · obtain rfl : 0xCD = b := Option.some.inj h
    decide +kernel
  · obtain rfl : 0x21 = b := Option.some.inj h
    decide +kernel
  · cases h

/-- A state in Virtual 8086 Mode meets the invariant and has a next state. -/
theorem witness_EveryStepKeepsInvariant :
    let s := (v86 3).placeInstr [0xF8]
    s.Inv ∧ ∃ t, step s = .next t := by
  refine ⟨⟨⟨?_, ?_, rfl, rfl, fun h => absurd h ?_, fun _ => ⟨?_, ?_⟩⟩, rfl, rfl⟩, ⟨_, rfl⟩⟩ <;> decide +kernel

end Sys2Proof.Tests
end

/-! PROOFS. O59: every step keeps the invariant. The state operations come first, then the meanings, file by file, then
the step. -/

namespace Sys2Proof.Machine

/-! ### What a result ensures -/

/-- Whatever value a result answers has the property. A stop ensures every property. -/
def Res.Ensures {α : Type} (r : Res α) (P : α → Prop) : Prop := ∀ a, r = .ok a → P a

/-- Whatever next state an outcome answers has the property. -/
def Out.Ensures (o : Out) (P : State → Prop) : Prop := ∀ t, o = .next t → P t

namespace Res.Ensures

variable {α β : Type} {P : α → Prop} {Q : β → Prop}

theorem ok {a : α} (h : P a) : Res.Ensures (.ok a) P := by
  rintro _ ⟨⟩
  exact h

theorem error {e : Stop} : Res.Ensures (.error e) P := by
  rintro _ ⟨⟩

theorem mono {R : α → Prop} {x : Res α} (hx : x.Ensures P) (h : ∀ a, P a → R a) : x.Ensures R :=
  fun a ha => h a (hx a ha)

theorem bind {x : Res α} {f : α → Res β} (hx : x.Ensures P) (hf : ∀ a, P a → (f a).Ensures Q) :
    Res.Ensures (x >>= f) Q := by
  intro b hb
  obtain ⟨a, ha, hfa⟩ := Res.bind_ok hb
  exact hf a (hx a ha) b hfa

/-- A sequence whose first part only reads. -/
theorem after {x : Res α} {f : α → Res β} (hf : ∀ a, (f a).Ensures Q) : Res.Ensures (x >>= f) Q :=
  bind (P := fun _ => True) (fun _ _ => trivial) fun a _ => hf a

/-- After a check its condition holds. -/
theorem afterNeed {c : Bool} {e : Exc} {f : Unit → Res β} (hf : c = true → (f ()).Ensures Q) :
    Res.Ensures (need c e >>= f) Q :=
  bind (P := fun _ => c = true) (fun _ hu => need_ok.1 hu) fun _ hc => hf hc

end Res.Ensures

theorem Out.Ensures.next {P : State → Prop} {t : State} (h : P t) : Out.Ensures (.next t) P := by
  rintro _ ⟨⟩
  exact h

theorem Out.Ensures.refused {P : State → Prop} {r : Refusal} : Out.Ensures (.refused r) P := by
  rintro _ ⟨⟩

theorem Out.Ensures.fault {P : State → Prop} {f : Fault} : Out.Ensures (.fault f) P := by
  rintro _ ⟨⟩

/-! ### The kept property -/

/-- A sound state with the given prefixes and single-step trap pending. The meanings keep it, and it is stronger than
`Sound` so that the delivery of an event can be seen to keep `Inv`. -/
def State.SoundWith (p : Prefixes) (trap : Bool) (s : State) : Prop :=
  s.Sound ∧ s.seq.pfx = p ∧ s.seq.stepTrap = trap

theorem State.inv_iff {s : State} : s.Inv ↔ s.SoundWith Prefixes.empty false := Iff.rfl

theorem State.SoundWith.sound {p : Prefixes} {trap : Bool} {s : State} (h : s.SoundWith p trap) : s.Sound := h.1

theorem State.Sound.soundWith {s : State} (h : s.Sound) : s.SoundWith s.seq.pfx s.seq.stepTrap := ⟨h, rfl, rfl⟩

/-- Soundness does not see the registers, EIP, the flags, the pins, the I/O events, and of the sequencing state only the
prefixes and the single-step trap. -/
theorem State.SoundWith.congr {p : Prefixes} {trap : Bool} {s t : State} (h : s.SoundWith p trap)
    (hmem : t.mem = s.mem := by simp) (hctrl : t.ctrl.cr3 = s.ctrl.cr3 := by simp) (hsegs : t.segs = s.segs := by simp)
    (htables : t.tables = s.tables := by simp) (hpfx : t.seq.pfx = s.seq.pfx := by simp)
    (htrap : t.seq.stepTrap = s.seq.stepTrap := by simp) : t.SoundWith p trap := by
  simpa only [State.SoundWith, State.Sound, hmem, hctrl, hsegs, htables, hpfx, htrap] using h

section Operations

variable {s : State} {p : Prefixes} {trap : Bool}

/-! ### Updates of the state -/

theorem State.setSeg_soundWith {r : SReg} {g : SegReg} (hs : s.SoundWith p trap)
    (hg : g.valid = true ∨ (r ≠ .cs ∧ r ≠ .ss)) : (s.setSeg r g).SoundWith p trap := by
  obtain ⟨⟨hmem, hcr3, hcs, hss, hldtr, htr⟩, hpfx, htrap⟩ := hs
  refine ⟨⟨hmem, hcr3, ?_, ?_, hldtr, htr⟩, hpfx, htrap⟩ <;> cases r <;> simp_all [Segs.set]

theorem State.setSeg_soundWith_of_valid {r : SReg} {g : SegReg} (hs : s.SoundWith p trap) (hg : g.valid = true) :
    (s.setSeg r g).SoundWith p trap :=
  State.setSeg_soundWith hs (.inl hg)

theorem State.withFlags_soundWith {f : Flags} (hs : s.SoundWith p trap) :
    State.SoundWith p trap { s with flags := f } := hs

theorem State.setReg_soundWith {w : Width} {r : Reg} {v : BitVec w.bits} (hs : s.SoundWith p trap) :
    (s.setReg w r v).SoundWith p trap := hs

theorem State.setEReg_soundWith {z : Size} {r : Reg} {v : BitVec 32} (hs : s.SoundWith p trap) :
    (s.setEReg z r v).SoundWith p trap := hs

theorem State.dropStack_soundWith {k : BitVec 32} (hs : s.SoundWith p trap) : (s.dropStack k).SoundWith p trap := hs

theorem State.unblockNmi_soundWith (hs : s.SoundWith p trap) : s.unblockNmi.SoundWith p trap := hs

theorem State.jumpTo_soundWith {v : BitVec 32} (hs : s.SoundWith p trap) : (s.jumpTo v).SoundWith p trap := hs

theorem State.jumpFar_soundWith {g : SegReg} {v : BitVec 32} (hs : s.SoundWith p trap) (hg : g.valid = true) :
    (s.jumpFar g v).SoundWith p trap :=
  State.jumpTo_soundWith (State.setSeg_soundWith_of_valid hs hg)

theorem State.loadStack_soundWith {g : SegReg} {v : BitVec 32} (hs : s.SoundWith p trap) (hg : g.valid = true) :
    (s.loadStack g v).SoundWith p trap :=
  (State.setSeg_soundWith_of_valid (r := .ss) hs hg).congr

theorem State.dropInvalid_soundWith (hs : s.SoundWith p trap) : s.dropInvalid.SoundWith p trap := hs

theorem State.loadCr2_soundWith {x : Exc} (hs : s.SoundWith p trap) : (s.loadCr2 x).SoundWith p trap :=
  hs.congr (hctrl := by unfold State.loadCr2; split <;> rfl)

theorem State.inhibitAfterSs_soundWith {r : SReg} (hs : s.SoundWith p trap) :
    (s.inhibitAfterSs r).SoundWith p trap := by
  unfold State.inhibitAfterSs
  split <;> exact hs

theorem State.noteStores_soundWith {n : Nat} {lin : BitVec 32} (hs : s.SoundWith p trap) :
    (s.noteStores n lin).SoundWith p trap :=
  have hseq := s.noteStores_seq n lin
  hs.congr (hpfx := (congrArg Seq.pfx hseq :)) (htrap := (congrArg Seq.stepTrap hseq :))

/-! ### Stores -/

theorem State.linWriteBytes_soundWith {u : Bool} {lin : BitVec 32} {bs : List Byte} (hs : s.SoundWith p trap) :
    (s.linWriteBytes u lin bs).Ensures (State.SoundWith p trap) := by
  intro t ht
  have hwf : t.mem.wf = true := State.linWriteBytes_wf hs.sound.1 ht
  obtain ⟨ps, -, rfl⟩ := State.linWriteBytes_ok ht
  obtain ⟨⟨-, hrest⟩, hseq⟩ := State.noteStores_soundWith (n := bs.length) (lin := lin) hs
  exact ⟨⟨hwf, hrest⟩, hseq⟩

theorem State.memWriteBytes_soundWith {r : SReg} {off : BitVec 32} {bs : List Byte} (hs : s.SoundWith p trap) :
    (s.memWriteBytes r off bs).Ensures (State.SoundWith p trap) := by
  unfold State.memWriteBytes
  split
  · exact State.linWriteBytes_soundWith hs
  · exact .error

theorem State.memWrite_soundWith {r : SReg} {w : Width} {off : BitVec 32} {v : BitVec w.bits}
    (hs : s.SoundWith p trap) : (s.memWrite r w off v).Ensures (State.SoundWith p trap) := by
  unfold State.memWrite
  split
  · exact State.linWriteBytes_soundWith hs
  · exact .error

theorem State.writeRM_soundWith {w : Width} {rm : RM} {v : BitVec w.bits} (hs : s.SoundWith p trap) :
    (s.writeRM w rm v).Ensures (State.SoundWith p trap) := by
  cases rm with
  | reg r => exact .ok hs
  | mem ea => exact State.memWrite_soundWith hs

theorem State.updateRM_soundWith {w : Width} {rm : RM} {f : BitVec w.bits → BitVec w.bits × State}
    (hf : ∀ a, (f a).2.SoundWith p trap) : (s.updateRM w rm f).Ensures (State.SoundWith p trap) := by
  unfold State.updateRM
  split
  · exact .error
  · exact State.writeRM_soundWith (hf _)

/-! ### The stack -/

theorem State.push_soundWith {z : Size} {v : BitVec 32} (hs : s.SoundWith p trap) :
    (s.push z v).Ensures (State.SoundWith p trap) := by
  intro t ht
  obtain ⟨u, hu, rfl⟩ := State.push_ok ht
  exact (State.memWrite_soundWith hs u hu).congr

theorem State.pushOrShutdown_soundWith {z : Size} {v : BitVec 32} (hs : s.SoundWith p trap) :
    (s.pushOrShutdown z v).Ensures (State.SoundWith p trap) :=
  fun t ht => State.push_soundWith hs t (State.pushOrShutdown_ok ht)

theorem State.pop_soundWith {z : Size} (hs : s.SoundWith p trap) :
    (s.pop z).Ensures fun vt => vt.2.SoundWith p trap := by
  rintro ⟨v, t⟩ ht
  obtain ⟨-, rfl⟩ := State.pop_ok ht
  exact hs.congr

theorem State.padWord_soundWith {z : Size} {sel : BitVec 16} (hs : s.SoundWith p trap) :
    (s.padWord z sel).2.SoundWith p trap := by
  cases z <;> exact hs

theorem State.pushWord_soundWith {z : Size} {sel : BitVec 16} (hs : s.SoundWith p trap) :
    (s.pushWord z sel).Ensures (State.SoundWith p trap) :=
  State.push_soundWith (State.padWord_soundWith hs)

theorem State.pushList_soundWith {z : Size} (l : List (BitVec 32)) (hs : s.SoundWith p trap) :
    (s.pushList z l).Ensures (State.SoundWith p trap) := by
  induction l generalizing s with
  | nil => exact .ok hs
  | cons v l ih =>
    unfold State.pushList
    split
    · exact .error
    · next u hu => exact ih (State.push_soundWith hs u hu)

theorem State.pushCode_soundWith {z : Size} {e : Event} (hs : s.SoundWith p trap) :
    (s.pushCode z e).Ensures (State.SoundWith p trap) := by
  unfold State.pushCode
  split
  · exact .ok hs
  · exact State.pushWord_soundWith hs

/-! ### Segment registers whose checks pass hold a segment -/

theorem State.checkStack_valid {sel : BitVec 16} : (s.checkStack sel).Ensures (·.valid = true) :=
  .afterNeed fun _ => .after fun _ => .afterNeed fun _ => .afterNeed fun _ => .afterNeed fun _ => .afterNeed fun _ =>
    .ok rfl

theorem State.checkNewStack_valid {sel : BitVec 16} {level : BitVec 2} {e : Exc} {ext : BitVec 16} :
    (s.checkNewStack sel level e ext).Ensures (·.valid = true) :=
  .afterNeed fun _ => .after fun _ => .afterNeed fun _ => .afterNeed fun _ => .afterNeed fun _ => .afterNeed fun _ =>
    .ok rfl

theorem State.checkReturnSs_valid {sel : BitVec 16} {level : BitVec 2} :
    (s.checkReturnSs sel level).Ensures (·.valid = true) :=
  .afterNeed fun _ => .after fun _ => .afterNeed fun _ => .afterNeed fun _ => .afterNeed fun _ => .afterNeed fun _ =>
    .ok rfl

theorem State.checkReturnCs_valid {sel : BitVec 16} : (s.checkReturnCs sel).Ensures (·.valid = true) :=
  .afterNeed fun _ => .after fun _ => .afterNeed fun _ => .afterNeed fun _ => .afterNeed fun _ => .afterNeed fun _ =>
    .ok rfl

theorem State.checkCode_valid {sel : BitVec 16} {d : Desc} : (s.checkCode sel d).Ensures (·.valid = true) :=
  .afterNeed fun _ => .afterNeed fun _ => .afterNeed fun _ => .ok rfl

/-- What SS holds after a load is a segment (R98, R99). -/
theorem State.checkSeg_ss_valid {sel : BitVec 16} : (s.checkSeg .ss sel).Ensures (·.valid = true) := by
  unfold State.checkSeg
  split
  · exact State.checkStack_valid
  · exact .ok rfl

theorem State.loadSeg_soundWith {r : SReg} {sel : BitVec 16} (hs : s.SoundWith p trap) (hr : r ≠ .cs) :
    (s.loadSeg r sel).Ensures (State.SoundWith p trap) := by
  intro t ht
  obtain ⟨g, hg, rfl⟩ := State.loadSeg_ok ht
  by_cases hss : r = .ss
  · subst hss
    exact State.setSeg_soundWith_of_valid hs (State.checkSeg_ss_valid g hg)
  · exact State.setSeg_soundWith hs (.inr ⟨hr, hss⟩)

/-! ### Taking an event -/

theorem State.enterReal_soundWith {e : Event} (hs : s.SoundWith p trap) :
    (s.enterReal e).Ensures (State.SoundWith p trap) :=
  .after fun _ => (State.push_soundWith hs).bind fun _ ha => (State.push_soundWith ha).bind fun _ hb =>
    (State.push_soundWith hb).bind fun _ hc => .afterNeed fun _ => .after fun _ => .after fun _ =>
    .ok (State.jumpFar_soundWith hc rfl)

theorem State.enterInner_soundWith {e : Event} {g : Desc} {cs : SegReg} (hs : s.SoundWith p trap)
    (hcs : cs.valid = true) : (s.enterInner e g cs).Ensures (State.SoundWith p trap) :=
  .after fun _ => State.checkNewStack_valid.bind fun _ hss => .afterNeed fun _ => .afterNeed fun _ =>
    have ha := State.loadStack_soundWith (State.setSeg_soundWith_of_valid hs hcs) hss
    (State.pushWord_soundWith ha).bind fun _ hb => (State.push_soundWith hb).bind fun _ hc =>
    (State.push_soundWith hc).bind fun _ hd => (State.pushWord_soundWith hd).bind fun _ hf =>
    (State.push_soundWith hf).bind fun _ hh => (State.pushCode_soundWith hh).bind fun _ hi =>
    .ok (State.jumpTo_soundWith hi)

theorem State.enterSame_soundWith {e : Event} {g : Desc} {cs : SegReg} (hs : s.SoundWith p trap)
    (hcs : cs.valid = true) : (s.enterSame e g cs).Ensures (State.SoundWith p trap) :=
  .afterNeed fun _ => .afterNeed fun _ => (State.push_soundWith hs).bind fun _ ha =>
    (State.pushWord_soundWith ha).bind fun _ hb => (State.push_soundWith hb).bind fun _ hc =>
    (State.pushCode_soundWith hc).bind fun _ hd => .ok (State.jumpFar_soundWith hd hcs)

theorem State.enterFromV86_soundWith {e : Event} {g : Desc} {cs : SegReg} (hs : s.SoundWith p trap)
    (hcs : cs.valid = true) : (s.enterFromV86 e g cs).Ensures (State.SoundWith p trap) := by
  unfold State.enterFromV86
  split
  · exact .error
  · refine .after fun _ => State.checkNewStack_valid.bind fun ss hss => .afterNeed fun _ => .afterNeed fun _ =>
      .bind (State.pushWord_soundWith (p := p) (trap := trap) ?_) fun b hb => ?_
    · exact State.setReg_soundWith (State.setSeg_soundWith_of_valid
        (State.setSeg_soundWith_of_valid (State.withFlags_soundWith hs) hcs) hss)
    · exact (State.pushWord_soundWith hb).bind fun _ hc => (State.pushWord_soundWith hc).bind fun _ hd =>
        (State.pushWord_soundWith hd).bind fun _ hf => (State.pushWord_soundWith hf).bind fun _ hh =>
        (State.push_soundWith hh).bind fun _ hi => (State.push_soundWith hi).bind fun _ hj =>
        (State.pushWord_soundWith hj).bind fun _ hk => (State.push_soundWith hk).bind fun _ hl =>
        (State.pushCode_soundWith hl).bind fun _ hm => .ok (State.jumpTo_soundWith hm)

theorem State.enterGate_soundWith {e : Event} {g : Desc} (hs : s.SoundWith p trap) :
    (s.enterGate e g).Ensures (State.SoundWith p trap) := by
  refine .afterNeed fun _ => .after fun _ => .afterNeed fun _ => .afterNeed fun _ => ?_
  split
  · split
    · exact .afterNeed fun _ => State.enterFromV86_soundWith hs rfl
    · exact State.enterInner_soundWith hs rfl
  · exact .afterNeed fun _ => .afterNeed fun _ => State.enterSame_soundWith hs rfl

theorem State.enterProtected_soundWith {e : Event} (hs : s.SoundWith p trap) :
    (s.enterProtected e).Ensures (State.SoundWith p trap) := by
  refine .afterNeed fun _ => .after fun _ => .afterNeed fun _ => .afterNeed fun _ => .afterNeed fun _ => ?_
  split
  · exact .after fun _ => .error
  · exact State.enterGate_soundWith hs

/-- Taking an event keeps the state sound, and it touches neither the prefixes nor the pending trap. -/
theorem State.enter_soundWith {e : Event} (hs : s.SoundWith p trap) :
    (s.enter e).Ensures (State.SoundWith p trap) := by
  unfold State.enter
  split
  · exact State.enterReal_soundWith hs
  · exact State.enterProtected_soundWith hs

theorem State.deliver_soundWith {n : Nat} {e : Event} (hs : s.SoundWith p trap) :
    (s.deliver n e).Ensures (State.SoundWith p trap) := fun _ ht =>
  State.deliver_induct (State.SoundWith p trap) (fun _ hu => hu) (fun _ _ hu => State.loadCr2_soundWith hu)
    (fun _ _ v hu hv => State.enter_soundWith hu v hv) n hs ht

/-! ### Running a meaning -/

theorem State.restart_soundWith (hs : s.Sound) : s.restart.SoundWith Prefixes.empty false := ⟨hs, rfl, rfl⟩

/-- An exception is delivered from the restarted state, which is sound when the state it was raised in is (R471). -/
theorem State.settle_sound {r : Res State} (hs : s.Sound) (hr : r.Ensures State.Sound) :
    (s.settle r).Ensures State.Sound := by
  intro t ht
  obtain rfl | ⟨-, rfl⟩ | ⟨x, -, hx⟩ := State.settle_next ht
  · exact hr t rfl
  · exact hs
  · exact (State.deliver_soundWith (State.loadCr2_soundWith (State.restart_soundWith hs)) t hx).sound

theorem perform_sound_of_sound {rule : GroupRule} {body : State → Res State} (hs : s.SoundWith p trap)
    (hb : (body s).Ensures State.Sound) : (perform rule s body).Ensures State.Sound := by
  refine State.settle_sound hs.sound ?_
  split
  · exact hb
  · exact .error

theorem perform_sound {rule : GroupRule} {body : State → Res State} (hs : s.SoundWith p trap)
    (hb : (body s).Ensures (State.SoundWith p trap)) : (perform rule s body).Ensures State.Sound :=
  perform_sound_of_sound hs (hb.mono fun _ => State.SoundWith.sound)

/-! ### IRET -/

theorem State.iretReal_soundWith (hs : s.SoundWith p trap) : s.iretReal.Ensures (State.SoundWith p trap) :=
  .after fun _ => .after fun _ => .after fun _ =>
    .ok (State.unblockNmi_soundWith (State.jumpFar_soundWith
      (State.withFlags_soundWith (State.dropStack_soundWith hs)) rfl))

theorem State.iretTask_ensures {P : State → Prop} : s.iretTask.Ensures P :=
  .after fun _ => .after fun _ => .error

theorem State.iretToV86_soundWith (hs : s.SoundWith p trap) : s.iretToV86.Ensures (State.SoundWith p trap) := by
  refine .afterNeed fun _ => .after fun _ => .afterNeed fun _ => .after fun _ => .after fun _ => .after fun _ =>
    .after fun _ => .after fun _ => .after fun _ => .after fun _ => .after fun _ => .ok ?_
  obtain ⟨⟨hmem, hcr3, -, -, hldtr, htr⟩, hseq⟩ := hs
  exact ⟨⟨hmem, hcr3, rfl, rfl, hldtr, htr⟩, hseq⟩

theorem State.iretSame_soundWith {sel : BitVec 16} (hs : s.SoundWith p trap) :
    (s.iretSame sel).Ensures (State.SoundWith p trap) :=
  .afterNeed fun _ => State.checkReturnCs_valid.bind fun _ hcs => .after fun _ => .afterNeed fun _ => .after fun _ =>
    .ok (State.unblockNmi_soundWith (State.jumpFar_soundWith
      (State.withFlags_soundWith (State.dropStack_soundWith hs)) hcs))

theorem State.iretOuter_soundWith {sel : BitVec 16} (hs : s.SoundWith p trap) :
    (s.iretOuter sel).Ensures (State.SoundWith p trap) :=
  .afterNeed fun _ => State.checkReturnCs_valid.bind fun _ hcs => .after fun _ =>
    State.checkReturnSs_valid.bind fun _ hss => .after fun _ => .afterNeed fun _ => .after fun _ => .after fun _ =>
    .ok (State.unblockNmi_soundWith (State.dropInvalid_soundWith (State.loadStack_soundWith
      (State.jumpFar_soundWith (State.withFlags_soundWith hs) hcs) hss)))

theorem State.iretStack_soundWith (hs : s.SoundWith p trap) : s.iretStack.Ensures (State.SoundWith p trap) := by
  refine .after fun _ => .afterNeed fun _ => ?_
  split
  · exact State.iretSame_soundWith hs
  · exact State.iretOuter_soundWith hs

theorem State.iret_soundWith (hs : s.SoundWith p trap) : s.iret.Ensures (State.SoundWith p trap) := by
  unfold State.iret
  split
  · exact State.iretReal_soundWith hs
  split
  · exact .error
  split
  · exact State.iretTask_ensures
  refine .after fun _ => ?_
  split
  · exact State.iretToV86_soundWith hs
  · exact State.iretStack_soundWith hs

end Operations

section Meanings

variable {s : State} {p : Prefixes} {trap : Bool}

/-! ### Machine/Alu.lean -/

theorem State.aluFlags_soundWith {n : Nat} {op : AluOp} {a b : BitVec n} (hs : s.SoundWith p trap) :
    (s.aluFlags op a b).SoundWith p trap :=
  hs.congr

theorem State.aluRM_soundWith {op : AluOp} {w : Width} {rm : RM} {b : BitVec w.bits} (hs : s.SoundWith p trap) :
    (s.aluRM op w rm b).Ensures (State.SoundWith p trap) :=
  State.updateRM_soundWith fun _ => State.aluFlags_soundWith hs

theorem State.aluReg_soundWith {op : AluOp} {w : Width} {r : Reg} {b : BitVec w.bits} (hs : s.SoundWith p trap) :
    (s.aluReg op w r b).SoundWith p trap :=
  State.setReg_soundWith (State.aluFlags_soundWith hs)

theorem State.aluRegRM_soundWith {op : AluOp} {w : Width} {r : Reg} {rm : RM} (hs : s.SoundWith p trap) :
    (s.aluRegRM op w r rm).Ensures (State.SoundWith p trap) := by
  unfold State.aluRegRM
  split
  · exact .error
  · exact .ok (State.aluReg_soundWith hs)

theorem State.cmpRM_soundWith {w : Width} {rm : RM} {b : BitVec w.bits} (hs : s.SoundWith p trap) :
    (s.cmpRM w rm b).Ensures (State.SoundWith p trap) := by
  unfold State.cmpRM
  split
  · exact .error
  · exact .ok (State.aluFlags_soundWith hs)

theorem State.cmpRegRM_soundWith {w : Width} {r : Reg} {rm : RM} (hs : s.SoundWith p trap) :
    (s.cmpRegRM w r rm).Ensures (State.SoundWith p trap) := by
  unfold State.cmpRegRM
  split
  · exact .error
  · exact .ok (State.aluFlags_soundWith hs)

theorem State.testRM_soundWith {w : Width} {rm : RM} {b : BitVec w.bits} (hs : s.SoundWith p trap) :
    (s.testRM w rm b).Ensures (State.SoundWith p trap) := by
  unfold State.testRM
  split
  · exact .error
  · exact .ok hs

theorem State.incRM_soundWith {w : Width} {rm : RM} (hs : s.SoundWith p trap) :
    (s.incRM w rm).Ensures (State.SoundWith p trap) :=
  State.updateRM_soundWith fun _ => hs

theorem State.decRM_soundWith {w : Width} {rm : RM} (hs : s.SoundWith p trap) :
    (s.decRM w rm).Ensures (State.SoundWith p trap) :=
  State.updateRM_soundWith fun _ => hs

theorem State.negRM_soundWith {w : Width} {rm : RM} (hs : s.SoundWith p trap) :
    (s.negRM w rm).Ensures (State.SoundWith p trap) :=
  State.updateRM_soundWith fun _ => hs

theorem State.notRM_soundWith {w : Width} {rm : RM} (hs : s.SoundWith p trap) :
    (s.notRM w rm).Ensures (State.SoundWith p trap) :=
  State.updateRM_soundWith fun _ => hs

/-! ### Machine/Bits.lean -/

theorem State.bitMem_soundWith {op : BitOp} {w : Width} {r : SReg} {off : BitVec 32} {k : Nat}
    (hs : s.SoundWith p trap) : (s.bitMem op w r off k).Ensures (State.SoundWith p trap) := by
  unfold State.bitMem
  split
  · split
    · exact .error
    · exact .ok hs
  · split
    · exact .error
    · split
      · exact .error
      · exact State.memWrite_soundWith hs

theorem State.bitImm_soundWith {op : BitOp} {rm : RM} {imm : BitVec 8} (hs : s.SoundWith p trap) :
    (s.bitImm op rm imm).Ensures (State.SoundWith p trap) := by
  cases rm with
  | reg r => exact .ok hs
  | mem ea => exact State.bitMem_soundWith hs

theorem State.bitOffset_soundWith {op : BitOp} {rm : RM} {r : Reg} (hs : s.SoundWith p trap) :
    (s.bitOffset op rm r).Ensures (State.SoundWith p trap) := by
  cases rm with
  | reg q => exact .ok hs
  | mem ea => exact State.bitMem_soundWith hs

theorem State.scanRM_soundWith {r : Reg} {rm : RM} {index : BitVec s.opSize.width.bits → Nat}
    (hs : s.SoundWith p trap) : (s.scanRM r rm index).Ensures (State.SoundWith p trap) := by
  unfold State.scanRM
  split
  · exact .error
  · split
    · exact .ok hs
    · exact .ok hs

theorem State.setCond_soundWith {n : Nat} {rm : RM} (hs : s.SoundWith p trap) :
    (s.setCond n rm).Ensures (State.SoundWith p trap) :=
  State.writeRM_soundWith hs

/-! ### Machine/Control.lean -/

theorem State.jumpNear_soundWith {eip : BitVec 32} (hs : s.SoundWith p trap) :
    (s.jumpNear eip).Ensures (State.SoundWith p trap) := by
  unfold State.jumpNear
  split
  · exact .error
  · exact .ok (State.jumpTo_soundWith hs)

theorem State.jumpIf_soundWith {c : Bool} {d : BitVec 32} (hs : s.SoundWith p trap) :
    (s.jumpIf c d).Ensures (State.SoundWith p trap) := by
  unfold State.jumpIf
  split
  · exact State.jumpNear_soundWith hs
  · exact .ok hs

theorem State.jcc_soundWith {n : Nat} {rel : Rel} (hs : s.SoundWith p trap) :
    (s.jcc n rel).Ensures (State.SoundWith p trap) :=
  State.jumpIf_soundWith hs

theorem State.loopIf_soundWith {c : Bool} {rel : BitVec 8} (hs : s.SoundWith p trap) :
    (s.loopIf c rel).Ensures (State.SoundWith p trap) :=
  State.jumpIf_soundWith (State.setEReg_soundWith hs)

theorem State.callNear_soundWith {eip : BitVec 32} (hs : s.SoundWith p trap) :
    (s.callNear eip).Ensures (State.SoundWith p trap) := by
  unfold State.callNear
  split
  · exact .error
  · split
    · exact .error
    · next t ht => exact .ok (State.jumpTo_soundWith (State.push_soundWith hs t ht))

theorem State.retNear_soundWith {imm : BitVec 16} (hs : s.SoundWith p trap) :
    (s.retNear imm).Ensures (State.SoundWith p trap) := by
  unfold State.retNear
  split
  · exact .error
  · next ip t ht =>
    split
    · exact .error
    · exact .ok (State.jumpTo_soundWith (State.dropStack_soundWith (State.pop_soundWith hs (ip, t) ht)))

/-- A far transfer to a task ends in an exception or in the refusal of the task switch (D8). -/
theorem State.farTask_ensures {sel : BitVec 16} {d : Desc} {e : BitVec 16 → Exc} {P : State → Prop} :
    (s.farTask sel d e).Ensures P := by
  refine .afterNeed fun _ => .afterNeed fun _ => ?_
  split
  · exact .afterNeed fun _ => .after fun _ => .error
  · exact .afterNeed fun _ => .afterNeed fun _ => .error

theorem State.jumpCode_soundWith {cs : SegReg} {off : BitVec 32} (hs : s.SoundWith p trap) (hcs : cs.valid = true) :
    (s.jumpCode cs off).Ensures (State.SoundWith p trap) :=
  .afterNeed fun _ => .ok (State.jumpFar_soundWith hs hcs)

theorem State.jumpGate_soundWith {sel : BitVec 16} {g : Desc} (hs : s.SoundWith p trap) :
    (s.jumpGate sel g).Ensures (State.SoundWith p trap) :=
  .after fun _ => .after fun _ => .afterNeed fun _ => .afterNeed fun _ => State.jumpCode_soundWith hs rfl

theorem State.farJump_soundWith {off : BitVec 32} {sel : BitVec 16} (hs : s.SoundWith p trap) :
    (s.farJump off sel).Ensures (State.SoundWith p trap) := by
  unfold State.farJump
  split
  · refine .after fun d => ?_
    split
    · exact State.checkCode_valid.bind fun _ hcs => State.jumpCode_soundWith hs hcs
    split
    · exact State.jumpGate_soundWith hs
    split
    · exact State.farTask_ensures
    · exact .error
  · exact .ok (State.jumpFar_soundWith hs rfl)

theorem State.pushReturn_soundWith {z : Size} {cs : BitVec 16} {eip : BitVec 32} (hs : s.SoundWith p trap) :
    (s.pushReturn z cs eip).Ensures (State.SoundWith p trap) := by
  unfold State.pushReturn
  split
  · exact .error
  · next t ht => exact State.push_soundWith (State.pushWord_soundWith hs t ht)

theorem State.callCode_soundWith {z : Size} {cs : SegReg} {off : BitVec 32} (hs : s.SoundWith p trap)
    (hcs : cs.valid = true) : (s.callCode z cs off).Ensures (State.SoundWith p trap) :=
  .afterNeed fun _ => .afterNeed fun _ => (State.pushReturn_soundWith hs).bind fun _ ht =>
    .ok (State.jumpFar_soundWith ht hcs)

theorem State.copyParams_soundWith {old : State} {z : Size} (n : Nat) (hs : s.SoundWith p trap) :
    (old.copyParams z n s).Ensures (State.SoundWith p trap) := by
  induction n generalizing s with
  | zero => exact .ok hs
  | succ n ih =>
    unfold State.copyParams
    split
    · exact .error
    · split
      · exact .error
      · next u hu => exact ih (State.push_soundWith hs u hu)

theorem State.callInner_soundWith {g : Desc} {cs : SegReg} (hs : s.SoundWith p trap) (hcs : cs.valid = true) :
    (s.callInner g cs).Ensures (State.SoundWith p trap) :=
  .after fun _ => State.checkNewStack_valid.bind fun _ hss => .afterNeed fun _ => .afterNeed fun _ =>
    have ha := State.loadStack_soundWith (State.setSeg_soundWith_of_valid hs hcs) hss
    (State.pushWord_soundWith ha).bind fun _ hb => (State.push_soundWith hb).bind fun _ hc =>
    (State.copyParams_soundWith _ hc).bind fun _ hd => (State.pushReturn_soundWith hd).bind fun _ hf =>
    .ok (State.jumpTo_soundWith hf)

theorem State.callGate_soundWith {sel : BitVec 16} {g : Desc} (hs : s.SoundWith p trap) :
    (s.callGate sel g).Ensures (State.SoundWith p trap) := by
  refine .after fun _ => .after fun _ => .afterNeed fun _ => .afterNeed fun _ => ?_
  split
  · exact State.callInner_soundWith hs rfl
  · exact State.callCode_soundWith hs rfl

theorem State.farCall_soundWith {off : BitVec 32} {sel : BitVec 16} (hs : s.SoundWith p trap) :
    (s.farCall off sel).Ensures (State.SoundWith p trap) := by
  unfold State.farCall
  split
  · refine .after fun d => ?_
    split
    · exact State.checkCode_valid.bind fun _ hcs => State.callCode_soundWith hs hcs
    split
    · exact State.callGate_soundWith hs
    split
    · exact State.farTask_ensures
    · exact .error
  · exact .afterNeed fun _ => (State.pushReturn_soundWith hs).bind fun _ ht => .ok (State.jumpFar_soundWith ht rfl)

theorem State.retFarSame_soundWith {sel imm : BitVec 16} (hs : s.SoundWith p trap) :
    (s.retFarSame sel imm).Ensures (State.SoundWith p trap) :=
  State.checkReturnCs_valid.bind fun _ hcs => .after fun _ => .afterNeed fun _ =>
    .ok (State.jumpFar_soundWith (State.dropStack_soundWith hs) hcs)

theorem State.retFarOuter_soundWith {sel imm : BitVec 16} (hs : s.SoundWith p trap) :
    (s.retFarOuter sel imm).Ensures (State.SoundWith p trap) :=
  .afterNeed fun _ => State.checkReturnCs_valid.bind fun _ hcs => .after fun _ =>
    State.checkReturnSs_valid.bind fun _ hss => .after fun _ => .afterNeed fun _ => .after fun _ =>
    .ok (State.dropInvalid_soundWith (State.loadStack_soundWith (State.jumpFar_soundWith hs hcs) hss))

theorem State.retFar_soundWith {imm : BitVec 16} (hs : s.SoundWith p trap) :
    (s.retFar imm).Ensures (State.SoundWith p trap) := by
  unfold State.retFar
  split
  · refine .after fun _ => .afterNeed fun _ => ?_
    split
    · exact State.retFarSame_soundWith hs
    · exact State.retFarOuter_soundWith hs
  · exact .after fun _ => .after fun _ => .ok (State.jumpFar_soundWith (State.dropStack_soundWith hs) rfl)

/-! ### Machine/Decimal.lean -/

theorem State.aaa_soundWith (hs : s.SoundWith p trap) : s.aaa.SoundWith p trap := by
  unfold State.aaa
  split <;> exact hs

theorem State.aas_soundWith (hs : s.SoundWith p trap) : s.aas.SoundWith p trap := by
  unfold State.aas
  split <;> exact hs

theorem State.aad_soundWith {imm : BitVec 8} (hs : s.SoundWith p trap) :
    (s.aad imm).Ensures (State.SoundWith p trap) := by
  unfold State.aad
  split
  · exact .ok hs
  · exact .error

theorem State.aam_soundWith {imm : BitVec 8} (hs : s.SoundWith p trap) :
    (s.aam imm).Ensures (State.SoundWith p trap) := by
  unfold State.aam
  split
  · exact .ok hs
  · exact .error

/-! ### Machine/FlagOps.lean -/

theorem State.cli_soundWith (hs : s.SoundWith p trap) : s.cli.Ensures (State.SoundWith p trap) := by
  unfold State.cli
  split
  · exact .error
  · exact .ok hs

theorem State.sti_soundWith (hs : s.SoundWith p trap) : s.sti.Ensures (State.SoundWith p trap) := by
  unfold State.sti
  split
  · exact .error
  · exact .ok (hs.congr (hpfx := by dsimp only; split <;> rfl) (htrap := by dsimp only; split <;> rfl))

/-! ### Machine/Interrupts.lean -/

theorem State.intImm_soundWith {v : BitVec 8} (hs : s.SoundWith p trap) :
    (s.intImm v).Ensures (State.SoundWith p trap) := by
  unfold State.intImm
  split
  · exact .error
  · exact State.enter_soundWith hs

theorem State.intOverflow_soundWith (hs : s.SoundWith p trap) :
    s.intOverflow.Ensures (State.SoundWith p trap) := by
  unfold State.intOverflow
  split
  · exact State.enter_soundWith hs
  · exact .ok hs

theorem State.boundTest_soundWith {w : Width} {r : Reg} {rm : RM} (hs : s.SoundWith p trap) :
    (s.boundTest w r rm).Ensures (State.SoundWith p trap) := by
  unfold State.boundTest
  split
  · exact .error
  · split
    · exact .error
    · split
      · exact .error
      · exact .ok hs

/-! ### Machine/Io.lean -/

theorem State.portIn_soundWith {port : BitVec 16} {w : Width} (hs : s.SoundWith p trap) :
    (s.portIn port w).Ensures fun vt => vt.2.SoundWith p trap := by
  unfold State.portIn
  split
  · exact .error
  · exact .ok hs

theorem State.portOut_soundWith {port : BitVec 16} {w : Width} {v : BitVec w.bits} (hs : s.SoundWith p trap) :
    (s.portOut port w v).Ensures (State.SoundWith p trap) := by
  unfold State.portOut
  split
  · exact .error
  · exact .ok hs

theorem State.inPort_soundWith {w : Width} {port : BitVec 16} (hs : s.SoundWith p trap) :
    (s.inPort w port).Ensures (State.SoundWith p trap) := by
  unfold State.inPort
  split
  · exact .error
  · split
    · exact .error
    · next v t ht => exact .ok (State.setReg_soundWith (State.portIn_soundWith hs (v, t) ht))

theorem State.outPort_soundWith {w : Width} {port : BitVec 16} (hs : s.SoundWith p trap) :
    (s.outPort w port).Ensures (State.SoundWith p trap) := by
  unfold State.outPort
  split
  · exact .error
  · exact State.portOut_soundWith hs

/-! ### Machine/Move.lean -/

theorem State.loadReg_soundWith {w : Width} {r : Reg} {rm : RM} (hs : s.SoundWith p trap) :
    (s.loadReg w r rm).Ensures (State.SoundWith p trap) := by
  unfold State.loadReg
  split
  · exact .error
  · exact .ok hs

theorem State.loadExt_soundWith {src dst : Width} {r : Reg} {rm : RM} {f : BitVec src.bits → BitVec dst.bits}
    (hs : s.SoundWith p trap) : (s.loadExt src dst r rm f).Ensures (State.SoundWith p trap) := by
  unfold State.loadExt
  split
  · exact .error
  · exact .ok hs

theorem State.loadMoffs_soundWith {w : Width} {off : VImm} (hs : s.SoundWith p trap) :
    (s.loadMoffs w off).Ensures (State.SoundWith p trap) := by
  unfold State.loadMoffs
  split
  · exact .error
  · exact .ok hs

theorem State.storeMoffs_soundWith {w : Width} {off : VImm} (hs : s.SoundWith p trap) :
    (s.storeMoffs w off).Ensures (State.SoundWith p trap) :=
  State.memWrite_soundWith hs

theorem State.xchgRM_soundWith {w : Width} {rm : RM} {r : Reg} (hs : s.SoundWith p trap) :
    (s.xchgRM w rm r).Ensures (State.SoundWith p trap) := by
  unfold State.xchgRM
  split
  · exact .error
  · split
    · exact .error
    · next t ht => exact .ok (State.setReg_soundWith (State.writeRM_soundWith hs t ht))

theorem State.storeWordFree_soundWith {rm : RM} {v : BitVec 16} (hs : s.SoundWith p trap) :
    (s.storeWordFree rm v).Ensures (State.SoundWith p trap) := by
  unfold State.storeWordFree
  split
  · split
    · exact .ok hs
    · exact .ok hs
  · exact State.writeRM_soundWith hs

/-- MOV into CS is #UD, so that the register loaded is never CS (R367). -/
theorem State.movToSeg_soundWith {code : BitVec 3} {rm : RM} (hs : s.SoundWith p trap) :
    (s.movToSeg code rm).Ensures (State.SoundWith p trap) := by
  unfold State.movToSeg
  split
  · exact .error
  · exact .error
  · next r hr _ =>
    split
    · exact .error
    · split
      · exact .error
      · next t ht => exact .ok (State.inhibitAfterSs_soundWith (State.loadSeg_soundWith hs hr t ht))

theorem State.movFromSeg_soundWith {code : BitVec 3} {rm : RM} (hs : s.SoundWith p trap) :
    (s.movFromSeg code rm).Ensures (State.SoundWith p trap) := by
  unfold State.movFromSeg
  split
  · exact .error
  · exact State.storeWordFree_soundWith hs

theorem State.loadFar_soundWith {sr : SReg} {r : Reg} {rm : RM} (hs : s.SoundWith p trap) (hr : sr ≠ .cs) :
    (s.loadFar sr r rm).Ensures (State.SoundWith p trap) := by
  unfold State.loadFar
  split
  · exact .error
  · split
    · exact .error
    · split
      · exact .error
      · next t ht => exact .ok (State.setReg_soundWith (State.loadSeg_soundWith hs hr t ht))

theorem State.xlat_soundWith (hs : s.SoundWith p trap) : s.xlat.Ensures (State.SoundWith p trap) := by
  unfold State.xlat
  split
  · exact .error
  · exact .ok hs

theorem State.cbw_soundWith (hs : s.SoundWith p trap) : s.cbw.SoundWith p trap := by
  unfold State.cbw
  split <;> exact hs

/-! ### Machine/MulDiv.lean -/

theorem State.setProduct_soundWith {w : Width} {n : Nat} (hs : s.SoundWith p trap) :
    (s.setProduct w n).SoundWith p trap :=
  hs.congr

theorem State.setQuotRem_soundWith {w : Width} {q r : BitVec w.bits} (hs : s.SoundWith p trap) :
    (s.setQuotRem w q r).SoundWith p trap :=
  hs.congr

theorem State.mulRM_soundWith {w : Width} {rm : RM} (hs : s.SoundWith p trap) :
    (s.mulRM w rm).Ensures (State.SoundWith p trap) := by
  unfold State.mulRM
  split
  · exact .error
  · exact .ok (State.setProduct_soundWith hs)

theorem State.imulAcc_soundWith {w : Width} {rm : RM} (hs : s.SoundWith p trap) :
    (s.imulAcc w rm).Ensures (State.SoundWith p trap) := by
  unfold State.imulAcc
  split
  · exact .error
  · exact .ok (State.setProduct_soundWith hs)

theorem State.imulRegRM_soundWith {w : Width} {r : Reg} {rm : RM} {b : BitVec w.bits} (hs : s.SoundWith p trap) :
    (s.imulRegRM w r rm b).Ensures (State.SoundWith p trap) := by
  unfold State.imulRegRM
  split
  · exact .error
  · exact .ok hs

theorem State.divRM_soundWith {w : Width} {rm : RM} (hs : s.SoundWith p trap) :
    (s.divRM w rm).Ensures (State.SoundWith p trap) := by
  unfold State.divRM
  split
  · exact .error
  · split
    · exact .error
    · exact .ok (State.setQuotRem_soundWith hs)

theorem State.idivRM_soundWith {w : Width} {rm : RM} (hs : s.SoundWith p trap) :
    (s.idivRM w rm).Ensures (State.SoundWith p trap) := by
  unfold State.idivRM
  split
  · exact .error
  · split
    · exact .error
    · exact .ok (State.setQuotRem_soundWith hs)

/-! ### Machine/Prefixes.lean -/

theorem State.segPrefix_sound {r : SReg} (hs : s.Sound) : (s.segPrefix r).Ensures State.Sound := by
  unfold State.segPrefix
  split
  · exact .next hs
  · exact .refused

theorem State.groupPrefix_sound {g : GroupPrefix} (hs : s.Sound) : (s.groupPrefix g).Ensures State.Sound := by
  unfold State.groupPrefix
  split
  · exact .next hs
  · exact .refused

/-! ### Machine/Shift.lean -/

theorem State.shiftRM_soundWith {op : ShiftOp} {w : Width} {rm : RM} {n : Nat} (hs : s.SoundWith p trap) :
    (s.shiftRM op w rm n).Ensures (State.SoundWith p trap) := by
  unfold State.shiftRM
  split
  · split
    · exact .error
    · exact .ok hs
  · exact State.updateRM_soundWith fun _ => hs.congr

theorem State.doubleShift_soundWith {left : Bool} {w : Width} {rm : RM} {r : Reg} {k : Nat}
    (hs : s.SoundWith p trap) : (s.doubleShift left w rm r k).Ensures (State.SoundWith p trap) := by
  unfold State.doubleShift
  split
  · split
    · exact .error
    · exact .ok hs
  split
  · exact State.updateRM_soundWith fun _ => hs
  split
  · exact State.updateRM_soundWith fun _ => hs
  · exact State.updateRM_soundWith fun _ => hs

/-! ### Machine/Stack.lean -/

theorem State.pushRM_soundWith {rm : RM} (hs : s.SoundWith p trap) :
    (s.pushRM rm).Ensures (State.SoundWith p trap) := by
  unfold State.pushRM
  split
  · exact .error
  · exact State.pushOrShutdown_soundWith hs

theorem State.pushSeg_soundWith {r : SReg} (hs : s.SoundWith p trap) :
    (s.pushSeg r).Ensures (State.SoundWith p trap) :=
  State.pushOrShutdown_soundWith (State.padWord_soundWith hs)

theorem State.popRM_soundWith {rm : RM} (hs : s.SoundWith p trap) :
    (s.popRM rm).Ensures (State.SoundWith p trap) := by
  unfold State.popRM
  split
  · exact .error
  · next v t ht => exact State.writeRM_soundWith (State.pop_soundWith hs (v, t) ht)

theorem State.popSeg_soundWith {r : SReg} (hs : s.SoundWith p trap) (hr : r ≠ .cs) :
    (s.popSeg r).Ensures (State.SoundWith p trap) := by
  unfold State.popSeg
  split
  · exact .error
  · next v t ht =>
    split
    · exact .error
    · next u hu =>
      exact .ok (State.inhibitAfterSs_soundWith (State.loadSeg_soundWith (State.pop_soundWith hs (v, t) ht) hr u hu))

theorem State.pushAll_soundWith (hs : s.SoundWith p trap) : s.pushAll.Ensures (State.SoundWith p trap) := by
  unfold State.pushAll
  split
  · exact .error
  split
  · exact State.pushList_soundWith _ hs
  · exact .error

theorem State.popList_soundWith {z : Size} (l : List (Option Reg)) (hs : s.SoundWith p trap) :
    (s.popList z l).Ensures (State.SoundWith p trap) := by
  induction l generalizing s with
  | nil => exact .ok hs
  | cons r l ih =>
    unfold State.popList
    split
    · exact .error
    · next v t ht =>
      have hu := State.pop_soundWith hs (v, t) ht
      split
      · exact ih hu
      · exact ih (State.setEReg_soundWith hu)

theorem State.popAll_soundWith (hs : s.SoundWith p trap) : s.popAll.Ensures (State.SoundWith p trap) := by
  unfold State.popAll
  split
  · exact State.popList_soundWith _ hs
  · exact .error

theorem State.pushFlags_soundWith (hs : s.SoundWith p trap) : s.pushFlags.Ensures (State.SoundWith p trap) := by
  unfold State.pushFlags
  split
  · exact .error
  · exact State.pushOrShutdown_soundWith hs

theorem State.popFlags_soundWith (hs : s.SoundWith p trap) : s.popFlags.Ensures (State.SoundWith p trap) := by
  unfold State.popFlags
  split
  · exact .error
  · split
    · exact .error
    · next v t ht => exact .ok (State.withFlags_soundWith (State.pop_soundWith hs (v, t) ht))

theorem State.enterCopy_soundWith {z : Size} (n : Nat) (hs : s.SoundWith p trap) :
    (State.enterCopy z n s).Ensures (State.SoundWith p trap) := by
  induction n generalizing s with
  | zero => exact .ok hs
  | succ n ih =>
    unfold State.enterCopy
    dsimp only
    split
    · exact .error
    · split
      · exact .error
      · next u hu => exact ih (State.push_soundWith (State.setEReg_soundWith hs) u hu)

theorem State.enterDisplay_soundWith {z : Size} {frame : BitVec 32} {level : Nat} (hs : s.SoundWith p trap) :
    (s.enterDisplay z frame level).Ensures (State.SoundWith p trap) := by
  unfold State.enterDisplay
  split
  · exact .ok hs
  · split
    · exact .error
    · next t ht => exact State.push_soundWith (State.enterCopy_soundWith _ hs t ht)

theorem State.enterPush_soundWith {n : BitVec 16} {level : Nat} (hs : s.SoundWith p trap) :
    (s.enterPush n level).Ensures (State.SoundWith p trap) := by
  unfold State.enterPush
  split
  · exact .error
  · next t ht =>
    split
    · exact .error
    · next u hu =>
      exact .ok (State.setEReg_soundWith (State.setEReg_soundWith
        (State.enterDisplay_soundWith (State.push_soundWith hs t ht) u hu)))

theorem State.enterFrame_soundWith {n : BitVec 16} {level : BitVec 8} (hs : s.SoundWith p trap) :
    (s.enterFrame n level).Ensures (State.SoundWith p trap) := by
  unfold State.enterFrame
  split
  · exact .error
  · exact State.enterPush_soundWith hs

theorem State.leaveFrame_soundWith (hs : s.SoundWith p trap) : s.leaveFrame.Ensures (State.SoundWith p trap) := by
  unfold State.leaveFrame
  split
  · exact .error
  · next v t ht =>
    exact .ok (State.setEReg_soundWith (State.pop_soundWith (State.setEReg_soundWith hs) (v, t) ht))

/-! ### Machine/Strings.lean -/

theorem State.moveIndex_soundWith {r : Reg} {n : Nat} (hs : s.SoundWith p trap) :
    (s.moveIndex r n).SoundWith p trap :=
  State.setEReg_soundWith hs

theorem State.movsOne_soundWith {w : Width} (hs : s.SoundWith p trap) :
    (s.movsOne w).Ensures (State.SoundWith p trap) := by
  unfold State.movsOne
  split
  · exact .error
  · split
    · exact .error
    · next t ht => exact .ok (State.moveIndex_soundWith (State.moveIndex_soundWith (State.memWrite_soundWith hs t ht)))

theorem State.cmpsOne_soundWith {w : Width} (hs : s.SoundWith p trap) :
    (s.cmpsOne w).Ensures (State.SoundWith p trap) := by
  unfold State.cmpsOne
  split
  · exact .error
  · split
    · exact .error
    · exact .ok (State.moveIndex_soundWith (State.moveIndex_soundWith (State.aluFlags_soundWith hs)))

theorem State.scasOne_soundWith {w : Width} (hs : s.SoundWith p trap) :
    (s.scasOne w).Ensures (State.SoundWith p trap) := by
  unfold State.scasOne
  split
  · exact .error
  · exact .ok (State.moveIndex_soundWith (State.aluFlags_soundWith hs))

theorem State.lodsOne_soundWith {w : Width} (hs : s.SoundWith p trap) :
    (s.lodsOne w).Ensures (State.SoundWith p trap) := by
  unfold State.lodsOne
  split
  · exact .error
  · exact .ok (State.moveIndex_soundWith (State.setReg_soundWith hs))

theorem State.stosOne_soundWith {w : Width} (hs : s.SoundWith p trap) :
    (s.stosOne w).Ensures (State.SoundWith p trap) := by
  unfold State.stosOne
  split
  · exact .error
  · next t ht => exact .ok (State.moveIndex_soundWith (State.memWrite_soundWith hs t ht))

theorem State.insOne_soundWith {w : Width} (hs : s.SoundWith p trap) :
    (s.insOne w).Ensures (State.SoundWith p trap) := by
  unfold State.insOne
  split
  · exact .error
  · split
    · exact .error
    · split
      · exact .error
      · next v t ht =>
        split
        · exact .error
        · next u hu =>
          exact .ok (State.moveIndex_soundWith (State.memWrite_soundWith (State.portIn_soundWith hs (v, t) ht) u hu))

theorem State.outsOne_soundWith {w : Width} (hs : s.SoundWith p trap) :
    (s.outsOne w).Ensures (State.SoundWith p trap) := by
  unfold State.outsOne
  split
  · exact .error
  · split
    · exact .error
    · split
      · exact .error
      · next t ht => exact .ok (State.moveIndex_soundWith (State.portOut_soundWith hs t ht))

/-- A repetition keeps the state sound when its element does. Between two iterations no trap is pending, which is why
only soundness is kept (R477). -/
theorem State.repeated_sound {compares : Bool} {one : State → Res State} (hs : s.SoundWith p trap)
    (hone : (one s).Ensures (State.SoundWith p trap)) : (s.repeated compares one).Ensures State.Sound := by
  unfold State.repeated
  split
  · exact hone.mono fun _ => State.SoundWith.sound
  split
  · exact .ok hs.sound
  split
  · exact .error
  · next t ht =>
    have hu : (t.setEReg s.addrSize .ecx (s.index .ecx - 1)).Sound := (hone t ht).sound
    refine .ok ?_
    split <;> exact hu

/-! ### Machine/System.lean -/

theorem State.withZf_soundWith {z : Bool} (hs : s.SoundWith p trap) : (s.withZf z).SoundWith p trap := hs

theorem State.adjustRpl_soundWith {rm : RM} {src : BitVec 16} (hs : s.SoundWith p trap) :
    (s.adjustRpl rm src).Ensures (State.SoundWith p trap) := by
  unfold State.adjustRpl
  split
  · exact .error
  · split
    · exact .error
    · split
      · exact State.writeRM_soundWith (State.withZf_soundWith hs)
      · exact .ok (State.withZf_soundWith hs)

theorem State.loadRights_soundWith {r : Reg} {rm : RM} (hs : s.SoundWith p trap) :
    (s.loadRights r rm).Ensures (State.SoundWith p trap) := by
  unfold State.loadRights
  split
  · exact .error
  · exact .ok hs
  · split
    · exact .ok hs
    · exact .ok hs

theorem State.loadLimit_soundWith {r : Reg} {rm : RM} (hs : s.SoundWith p trap) :
    (s.loadLimit r rm).Ensures (State.SoundWith p trap) := by
  unfold State.loadLimit
  split
  · exact .error
  · exact .ok hs
  · split
    · exact .ok hs
    · exact .ok hs

theorem State.verify_soundWith {rm : RM} {ok : Desc → Bool} (hs : s.SoundWith p trap) :
    (s.verify rm ok).Ensures (State.SoundWith p trap) := by
  unfold State.verify
  split
  · exact .error
  · exact .ok hs
  · exact .ok hs

theorem State.storeSystem_soundWith {rm : RM} {sel : BitVec 16} (hs : s.SoundWith p trap) :
    (s.storeSystem rm sel).Ensures (State.SoundWith p trap) := by
  unfold State.storeSystem
  split
  · exact .error
  · exact State.writeRM_soundWith hs

/-- A system register made from a selector that is not null and not local names a descriptor of the GDT. -/
theorem Desc.toSys_global {d : Desc} {sel : BitVec 16} (hnull : isNull sel = false) (hlocal : (!isLocal sel) = true) :
    (d.toSys sel).Global := fun _ =>
  ⟨by simpa [isNull, Desc.toSys] using hnull, by simpa [isLocal, Desc.toSys] using hlocal⟩

theorem State.withLdtr_soundWith {g : SysReg} (hs : s.SoundWith p trap) (hg : g.Global) :
    State.SoundWith p trap { s with tables := { s.tables with ldtr := g } } := by
  obtain ⟨⟨hmem, hcr3, hcs, hss, -, htr⟩, hseq⟩ := hs
  exact ⟨⟨hmem, hcr3, hcs, hss, hg, htr⟩, hseq⟩

theorem State.withTr_soundWith {g : SysReg} (hs : s.SoundWith p trap) (hg : g.Global) :
    State.SoundWith p trap { s with tables := { s.tables with tr := g } } := by
  obtain ⟨⟨hmem, hcr3, hcs, hss, hldtr, -⟩, hseq⟩ := hs
  exact ⟨⟨hmem, hcr3, hcs, hss, hldtr, hg⟩, hseq⟩

theorem SysReg.null_global {sel : BitVec 16} : (SysReg.null sel).Global := fun h => by cases h

/-- LLDT loads a null selector as invalid and any other only from the GDT (R341). -/
theorem State.loadLdt_soundWith {rm : RM} (hs : s.SoundWith p trap) :
    (s.loadLdt rm).Ensures (State.SoundWith p trap) := by
  refine .after fun sel => ?_
  split
  · exact .ok (State.withLdtr_soundWith hs SysReg.null_global)
  · next hnull =>
    exact .afterNeed fun hlocal => .after fun _ => .afterNeed fun _ => .afterNeed fun _ =>
      .ok (State.withLdtr_soundWith hs (Desc.toSys_global (Bool.eq_false_of_not_eq_true hnull) hlocal))

/-- LTR loads a selector only from the GDT, and its store of the busy bit keeps memory canonical (R347). -/
theorem State.loadTr_soundWith {rm : RM} (hs : s.SoundWith p trap) :
    (s.loadTr rm).Ensures (State.SoundWith p trap) :=
  .after fun _ => .afterNeed fun hnull => .afterNeed fun hlocal => .after fun _ => .afterNeed fun _ =>
    .afterNeed fun _ => (State.linWriteBytes_soundWith hs).bind fun _ ht =>
    .ok (State.withTr_soundWith ht (Desc.toSys_global (by simpa using hnull) hlocal))

theorem State.storeTable_soundWith {rm : RM} {t : TableReg} (hs : s.SoundWith p trap) :
    (s.storeTable rm t).Ensures (State.SoundWith p trap) := by
  unfold State.storeTable
  split
  · exact .error
  · exact State.memWriteBytes_soundWith hs

theorem State.loadGdt_soundWith {rm : RM} (hs : s.SoundWith p trap) :
    (s.loadGdt rm).Ensures (State.SoundWith p trap) := by
  unfold State.loadGdt
  split
  · exact .error
  · exact .ok hs

theorem State.loadIdt_soundWith {rm : RM} (hs : s.SoundWith p trap) :
    (s.loadIdt rm).Ensures (State.SoundWith p trap) := by
  unfold State.loadIdt
  split
  · exact .error
  · exact .ok hs

theorem State.setCr0_soundWith {c : Cr0} (hs : s.SoundWith p trap) : (s.setCr0 c).SoundWith p trap := hs

theorem State.loadMsw_soundWith {rm : RM} (hs : s.SoundWith p trap) :
    (s.loadMsw rm).Ensures (State.SoundWith p trap) :=
  .after fun _ => .after fun _ => .ok (State.setCr0_soundWith hs)

/-- A write of CR3 discards its low 12 bits (R43). -/
theorem State.writeCr_soundWith {code : BitVec 3} {v : BitVec 32} {t : State} (hs : s.SoundWith p trap)
    (ht : s.writeCr code v = some t) : t.SoundWith p trap := by
  unfold State.writeCr at ht
  split at ht <;> cases ht
  · exact State.setCr0_soundWith hs
  · exact hs
  · obtain ⟨⟨hmem, -, hrest⟩, hseq⟩ := hs
    exact ⟨⟨hmem, by dsimp only; rw [BitVec.and_assoc]; simp, hrest⟩, hseq⟩

theorem State.writeDr_soundWith {code : BitVec 3} {v : BitVec 32} {t : State} (hs : s.SoundWith p trap)
    (ht : s.writeDr code v = some t) : t.SoundWith p trap := by
  unfold State.writeDr at ht
  split at ht <;> cases ht <;> exact hs

theorem State.writeTr_soundWith {code : BitVec 3} {v : BitVec 32} {t : State} (hs : s.SoundWith p trap)
    (ht : s.writeTr code v = some t) : t.SoundWith p trap := by
  unfold State.writeTr at ht
  split at ht <;> cases ht <;> exact hs

theorem State.moveFromSpecial_soundWith {r : Reg} {v : Option (BitVec 32)} (hs : s.SoundWith p trap) :
    (s.moveFromSpecial r v).Ensures (State.SoundWith p trap) := by
  unfold State.moveFromSpecial
  split
  · exact .error
  · split
    · exact .error
    · exact .ok hs

theorem State.moveToSpecial_soundWith {o : Option State} (ho : ∀ t, o = some t → t.SoundWith p trap) :
    (s.moveToSpecial o).Ensures (State.SoundWith p trap) := by
  unfold State.moveToSpecial
  split
  · exact .error
  · next t =>
    split
    · exact .error
    · exact .ok (ho t rfl)

/-- While BUSY# is active WAIT takes its trap off, so that only soundness is kept (R441). -/
theorem State.waitPins_sound (hs : s.Sound) : s.waitPins.Ensures State.Sound := by
  unfold State.waitPins
  split
  · exact .error
  split
  · exact .error
  split
  · exact .ok hs
  · exact .ok hs

theorem State.escape_soundWith {rm : RM} (hs : s.SoundWith p trap) :
    (s.escape rm).Ensures (State.SoundWith p trap) := by
  unfold State.escape
  split
  · exact .error
  split
  · exact .error
  split
  · exact .error
  · exact .ok hs

end Meanings

section Instructions

variable {s : State} {p : Prefixes} {trap : Bool}

/-! ### Meanings whose body is written out in place -/

theorem execLea_sound {r : Reg} {rm : RM} (hs : s.SoundWith p trap) : (execLea r rm s).Ensures State.Sound := by
  refine perform_sound hs ?_
  split
  · exact .error
  · exact .ok hs

theorem execHlt_sound (hs : s.SoundWith p trap) : (execHlt s).Ensures State.Sound := by
  refine perform_sound hs ?_
  split
  · exact .error
  · exact .ok hs

theorem execClts_sound (hs : s.SoundWith p trap) : (execClts s).Ensures State.Sound := by
  refine perform_sound hs ?_
  split
  · exact .error
  · exact .ok hs

/-! ### Every instruction -/

/-- Every instruction keeps the state sound, whether it completes, raises an exception or shuts the machine down. The
instructions that share an operation share a case. -/
theorem exec_sound (i : Instr) (hs : s.Sound) : Out.Ensures (exec i s) State.Sound := by
  have hs := hs.soundWith
  unfold exec
  cases i with
  -- arithmetic and logic
  | addRm8R8 | addRmvRv | addRm8Imm8 | addRmvImmv | addRmvImm8 | orRm8R8 | orRmvRv | orRm8Imm8 | orRmvImmv | orRmvImm8
  | adcRm8R8 | adcRmvRv | adcRm8Imm8 | adcRmvImmv | adcRmvImm8 | sbbRm8R8 | sbbRmvRv | sbbRm8Imm8 | sbbRmvImmv
  | sbbRmvImm8 | andRm8R8 | andRmvRv | andRm8Imm8 | andRmvImmv | andRmvImm8 | subRm8R8 | subRmvRv | subRm8Imm8
  | subRmvImmv | subRmvImm8 | xorRm8R8 | xorRmvRv | xorRm8Imm8 | xorRmvImmv | xorRmvImm8 =>
    exact perform_sound hs (State.aluRM_soundWith hs)
  | addR8Rm8 | addRvRmv | orR8Rm8 | orRvRmv | adcR8Rm8 | adcRvRmv | sbbR8Rm8 | sbbRvRmv | andR8Rm8 | andRvRmv
  | subR8Rm8 | subRvRmv | xorR8Rm8 | xorRvRmv =>
    exact perform_sound hs (State.aluRegRM_soundWith hs)
  | addAlImm8 | addEaxImmv | orAlImm8 | orEaxImmv | adcAlImm8 | adcEaxImmv | sbbAlImm8 | sbbEaxImmv | andAlImm8
  | andEaxImmv | subAlImm8 | subEaxImmv | xorAlImm8 | xorEaxImmv =>
    exact perform_sound hs (.ok (State.aluReg_soundWith hs))
  | cmpRm8R8 | cmpRmvRv | cmpRm8Imm8 | cmpRmvImmv | cmpRmvImm8 =>
    exact perform_sound hs (State.cmpRM_soundWith hs)
  | cmpR8Rm8 | cmpRvRmv => exact perform_sound hs (State.cmpRegRM_soundWith hs)
  | cmpAlImm8 | cmpEaxImmv => exact perform_sound hs (.ok (State.aluFlags_soundWith hs))
  | testRm8R8 | testRmvRv | testRm8Imm8 | testRmvImmv => exact perform_sound hs (State.testRM_soundWith hs)
  | incRv | incRm8 | incRmv => exact perform_sound hs (State.incRM_soundWith hs)
  | decRv | decRm8 | decRmv => exact perform_sound hs (State.decRM_soundWith hs)
  | negRm8 | negRmv => exact perform_sound hs (State.negRM_soundWith hs)
  | notRm8 | notRmv => exact perform_sound hs (State.notRM_soundWith hs)
  -- bits and conditions
  | btRmvImm8 | btsRmvImm8 | btrRmvImm8 | btcRmvImm8 => exact perform_sound hs (State.bitImm_soundWith hs)
  | btRmvRv | btsRmvRv | btrRmvRv | btcRmvRv => exact perform_sound hs (State.bitOffset_soundWith hs)
  | bsf | bsr => exact perform_sound hs (State.scanRM_soundWith hs)
  | seto | setno | setb | setnb | setz | setnz | setbe | setnbe | sets | setns | setp | setnp | setl | setnl | setle
  | setnle =>
    exact perform_sound hs (State.setCond_soundWith hs)
  -- shifts and rotates
  | rolRm8 | rolRmv | rorRm8 | rorRmv | rclRm8 | rclRmv | rcrRm8 | rcrRmv | shlRm8 | shlRmv | shrRm8 | shrRmv | sarRm8
  | sarRmv =>
    exact perform_sound hs (State.shiftRM_soundWith hs)
  | shldImm8 | shldCl | shrdImm8 | shrdCl => exact perform_sound hs (State.doubleShift_soundWith hs)
  -- multiplication and division
  | mulRm8 | mulRmv => exact perform_sound hs (State.mulRM_soundWith hs)
  | imulRm8 | imulRmv => exact perform_sound hs (State.imulAcc_soundWith hs)
  | imulRvRmvImmv | imulRvRmvImm8 | imulRvRmv => exact perform_sound hs (State.imulRegRM_soundWith hs)
  | divRm8 | divRmv => exact perform_sound hs (State.divRM_soundWith hs)
  | idivRm8 | idivRmv => exact perform_sound hs (State.idivRM_soundWith hs)
  -- decimal adjustments
  | aaa => exact perform_sound hs (.ok (State.aaa_soundWith hs))
  | aas => exact perform_sound hs (.ok (State.aas_soundWith hs))
  | aad => exact perform_sound hs (State.aad_soundWith hs)
  | aam => exact perform_sound hs (State.aam_soundWith hs)
  -- updates of registers and flags alone
  | testAlImm8 | testEaxImmv | movR8Imm8 | movRvImmv | lahf | sahf | cmc | clc | stc | cld | std | nop | cwd | daa
  | das =>
    exact perform_sound hs (.ok hs)
  | cbw => exact perform_sound hs (.ok (State.cbw_soundWith hs))
  | cli => exact perform_sound hs (State.cli_soundWith hs)
  | sti => exact perform_sound hs (State.sti_soundWith hs)
  | lea => exact execLea_sound hs
  -- moves
  | movRm8R8 | movRmvRv | movRm8Imm8 | movRmvImmv => exact perform_sound hs (State.writeRM_soundWith hs)
  | movR8Rm8 | movRvRmv => exact perform_sound hs (State.loadReg_soundWith hs)
  | movzxRm8 | movzxRm16 | movsxRm8 | movsxRm16 => exact perform_sound hs (State.loadExt_soundWith hs)
  | movAlMoffs | movEaxMoffs => exact perform_sound hs (State.loadMoffs_soundWith hs)
  | movMoffsAl | movMoffsEax => exact perform_sound hs (State.storeMoffs_soundWith hs)
  | xchgRm8R8 | xchgRmvRv | xchgEaxRv => exact perform_sound hs (State.xchgRM_soundWith hs)
  | xlat => exact perform_sound hs (State.xlat_soundWith hs)
  | movRmSreg => exact perform_sound hs (State.movFromSeg_soundWith hs)
  | movSregRm => exact perform_sound hs (State.movToSeg_soundWith hs)
  | les | lds | lss | lfs | lgs => exact perform_sound hs (State.loadFar_soundWith hs (by decide))
  -- the stack
  | pushRv | pushRmv => exact perform_sound hs (State.pushRM_soundWith hs)
  | pushImmv | pushImm8 => exact perform_sound hs (State.pushOrShutdown_soundWith hs)
  | pushEs | pushCs | pushSs | pushDs | pushFs | pushGs =>
    exact perform_sound hs (State.pushSeg_soundWith hs)
  | popRv | popRmv => exact perform_sound hs (State.popRM_soundWith hs)
  | popEs | popSs | popDs | popFs | popGs =>
    exact perform_sound hs (State.popSeg_soundWith hs (by decide))
  | pusha => exact perform_sound hs (State.pushAll_soundWith hs)
  | popa => exact perform_sound hs (State.popAll_soundWith hs)
  | pushf => exact perform_sound hs (State.pushFlags_soundWith hs)
  | popf => exact perform_sound hs (State.popFlags_soundWith hs)
  | enter => exact perform_sound hs (State.enterFrame_soundWith hs)
  | leave => exact perform_sound hs (State.leaveFrame_soundWith hs)
  -- control transfers
  | jo | jno | jb | jnb | jz | jnz | jbe | jnbe | js | jns | jp | jnp | jl | jnl | jle | jnle =>
    exact perform_sound hs (State.jcc_soundWith hs)
  | jcxzRel8 => exact perform_sound hs (State.jumpIf_soundWith hs)
  | loopneRel8 | loopeRel8 | loopRel8 => exact perform_sound hs (State.loopIf_soundWith hs)
  | jmpRelv | jmpRel8 => exact perform_sound hs (State.jumpNear_soundWith hs)
  | jmpRmv => exact perform_sound hs (.after fun _ => State.jumpNear_soundWith hs)
  | jmpFar => exact perform_sound hs (State.farJump_soundWith hs)
  | jmpFarM => exact perform_sound hs (.after fun _ => .after fun _ => State.farJump_soundWith hs)
  | callRelv => exact perform_sound hs (State.callNear_soundWith hs)
  | callRmv => exact perform_sound hs (.after fun _ => State.callNear_soundWith hs)
  | callFar => exact perform_sound hs (State.farCall_soundWith hs)
  | callFarM => exact perform_sound hs (.after fun _ => .after fun _ => State.farCall_soundWith hs)
  | retNearImm | retNear => exact perform_sound hs (State.retNear_soundWith hs)
  | retFarImm | retFar => exact perform_sound hs (State.retFar_soundWith hs)
  -- interrupts
  | int3 => exact perform_sound hs (State.enter_soundWith hs)
  | intN => exact perform_sound hs (State.intImm_soundWith hs)
  | into => exact perform_sound hs (State.intOverflow_soundWith hs)
  | iret => exact perform_sound hs (State.iret_soundWith hs)
  | bound => exact perform_sound hs (State.boundTest_soundWith hs)
  -- ports
  | inAlImm8 | inEaxImm8 | inAlDx | inEaxDx => exact perform_sound hs (State.inPort_soundWith hs)
  | outImm8Al | outImm8Eax | outDxAl | outDxEax => exact perform_sound hs (State.outPort_soundWith hs)
  -- strings
  | movsB | movsV => exact perform_sound_of_sound hs (State.repeated_sound hs (State.movsOne_soundWith hs))
  | cmpsB | cmpsV => exact perform_sound_of_sound hs (State.repeated_sound hs (State.cmpsOne_soundWith hs))
  | scasB | scasV => exact perform_sound_of_sound hs (State.repeated_sound hs (State.scasOne_soundWith hs))
  | lodsB | lodsV => exact perform_sound_of_sound hs (State.repeated_sound hs (State.lodsOne_soundWith hs))
  | stosB | stosV => exact perform_sound_of_sound hs (State.repeated_sound hs (State.stosOne_soundWith hs))
  | insB | insV => exact perform_sound_of_sound hs (State.repeated_sound hs (State.insOne_soundWith hs))
  | outsB | outsV => exact perform_sound_of_sound hs (State.repeated_sound hs (State.outsOne_soundWith hs))
  -- protection and system registers
  | arpl => exact perform_sound hs (State.adjustRpl_soundWith hs)
  | lar => exact perform_sound hs (State.loadRights_soundWith hs)
  | lsl => exact perform_sound hs (State.loadLimit_soundWith hs)
  | verr | verw => exact perform_sound hs (State.verify_soundWith hs)
  | sldt | str => exact perform_sound hs (State.storeSystem_soundWith hs)
  | lldt => exact perform_sound hs (State.loadLdt_soundWith hs)
  | ltr => exact perform_sound hs (State.loadTr_soundWith hs)
  | sgdt | sidt => exact perform_sound hs (State.storeTable_soundWith hs)
  | lgdt => exact perform_sound hs (State.loadGdt_soundWith hs)
  | lidt => exact perform_sound hs (State.loadIdt_soundWith hs)
  | smsw => exact perform_sound hs (State.storeWordFree_soundWith hs)
  | lmsw => exact perform_sound hs (State.loadMsw_soundWith hs)
  | clts => exact execClts_sound hs
  | movRCr | movRDr | movRTr => exact perform_sound hs (State.moveFromSpecial_soundWith hs)
  | movCrR =>
    exact perform_sound hs (State.moveToSpecial_soundWith fun _ => State.writeCr_soundWith hs)
  | movDrR =>
    exact perform_sound hs (State.moveToSpecial_soundWith fun _ => State.writeDr_soundWith hs)
  | movTrR =>
    exact perform_sound hs (State.moveToSpecial_soundWith fun _ => State.writeTr_soundWith hs)
  | hlt => exact execHlt_sound hs
  | wait => exact perform_sound_of_sound hs (State.waitPins_sound hs.sound)
  | esc => exact perform_sound hs (State.escape_soundWith hs)
  -- prefixes
  | segEs | segCs | segSs | segDs | segFs | segGs => exact State.segPrefix_sound hs.sound
  | opsize | addrsize => exact .next hs.sound
  | lock | repne | rep => exact State.groupPrefix_sound hs.sound

end Instructions

section Step

variable {s : State}

/-! ### One step -/

/-- An instruction with its prefixes keeps the state sound: the induction is over the rows still to be read. -/
theorem State.runInstr_sound (n : Nat) (hs : s.Sound) : (State.runInstr n s).Ensures State.Sound := by
  induction n generalizing s with
  | zero => exact .refused
  | succ n ih =>
    have hadv (len : Nat) : (s.advance len).Sound := hs
    unfold State.runInstr
    split
    · exact State.settle_sound hs .error
    · next i len _ =>
      split
      · split
        · next t ht => exact ih (exec_sound i (hadv len) t ht)
        · exact .fault
        · exact .refused
      · split
        · exact State.settle_sound (hadv len) .error
        · exact exec_sound i (hadv len)

/-- An event at a boundary is delivered with no prefixes and no trap left over, and delivery leaves both as they are. -/
theorem State.deliverAtBoundary_inv {e : Event} (hs : s.Sound) : (s.deliverAtBoundary e).Ensures State.Inv := by
  have hclear : State.SoundWith Prefixes.empty false
      { s with seq := { s.seq with halted := false, stepTrap := false, pfx := Prefixes.empty } } := ⟨hs, rfl, rfl⟩
  exact fun t ht => State.inv_iff.2 (State.deliver_soundWith hclear t ht)

theorem State.endInstr_inv {t : State} (ht : t.Sound) : (s.endInstr t).Ensures State.Inv := by
  unfold State.endInstr
  split
  · exact .refused
  split
  · exact State.deliverAtBoundary_inv ht
  · exact .next ⟨ht, rfl, rfl⟩

theorem State.oneInstr_inv (hs : s.Sound) : s.oneInstr.Ensures State.Inv := by
  have hbegin : s.beginInstr.Sound := hs
  unfold State.oneInstr
  split
  · next t ht => exact State.endInstr_inv (State.runInstr_sound _ hbegin t ht)
  · exact .fault
  · exact .refused

theorem State.runUnlessHalted_inv (hs : s.Inv) : s.runUnlessHalted.Ensures State.Inv := by
  unfold State.runUnlessHalted
  split
  · exact .next hs
  · exact State.oneInstr_inv hs.1

theorem SysReg.reset_global : SysReg.reset.Global := fun h => by cases h

/-- RESET leaves memory as it was and puts the rest in the reset state (R500). -/
theorem State.doReset_inv (hs : s.Inv) : s.doReset.Inv := by
  obtain ⟨⟨hmem, -⟩, -⟩ := hs
  exact ⟨⟨hmem, BitVec.zero_and, rfl, rfl, SysReg.reset_global, SysReg.reset_global⟩, rfl, rfl⟩

theorem State.runStep_inv (hs : s.Inv) : s.runStep.Ensures State.Inv := by
  unfold State.runStep
  split
  · exact .next (State.doReset_inv hs)
  split
  · exact .next hs
  split
  · exact State.deliverAtBoundary_inv hs.1
  split
  · exact State.runUnlessHalted_inv hs
  split
  · exact State.deliverAtBoundary_inv hs.1
  · exact State.runUnlessHalted_inv hs

end Step

/-- Settles O59: an instruction, whatever it answers, keeps the state sound (`exec_sound`), an event keeps it sound and
leaves the prefixes and the trap alone (`State.deliver_soundWith`), and each step ends by clearing both. -/
theorem everyStepKeepsInvariant : Obligations.EveryStepKeepsInvariant :=
  fun _ t hs ht => State.runStep_inv hs t ht

end Sys2Proof.Machine

/-! PROOFS. O1: FlagsAdd and FlagsSub in the integers (R34). The result as a number comes first, then each flag. -/

namespace Sys2Proof.Machine

section Arithmetic

variable {n : Nat} {a b : BitVec n} {c : Bool}

/-! ### The result as a number -/

theorem toNat_sum : (a + b + BitVec.ofNat n c.toNat).toNat = (a.toNat + b.toNat + c.toNat) % 2 ^ n := by
  simp only [BitVec.toNat_add, BitVec.toNat_ofNat, Nat.add_mod_mod, Nat.mod_add_mod]

/-- The minuend is the sum of the difference, the subtrahend and the borrow. -/
theorem toNat_difference : ((a - b - BitVec.ofNat n c.toNat).toNat : Int) =
    ((a.toNat : Int) - b.toNat - c.toNat) % 2 ^ n := by
  set r := a - b - BitVec.ofNat n c.toNat with hr
  have ha : a.toNat = (r.toNat + b.toNat + c.toNat) % 2 ^ n := by
    rw [← toNat_sum]
    congr 1
    rw [hr, sub_right_comm]
    simp
  have hlt : (r.toNat : Int) < 2 ^ n := by exact_mod_cast r.isLt
  rw [ha]
  push_cast
  rw [sub_sub, Int.emod_sub_emod, add_assoc, add_sub_cancel_right, Int.emod_eq_of_lt (by omega) hlt]

theorem toInt_sum : (a + b + BitVec.ofNat n c.toNat).toInt = (a.toInt + b.toInt + c.toNat).bmod (2 ^ n) := by
  rw [BitVec.toInt_add, BitVec.toInt_add, BitVec.toInt_ofNat', Int.add_bmod_bmod, Int.bmod_add_bmod]

theorem toInt_difference : (a - b - BitVec.ofNat n c.toNat).toInt = (a.toInt - b.toInt - c.toNat).bmod (2 ^ n) := by
  rw [BitVec.toInt_sub, BitVec.toInt_sub, BitVec.toInt_ofNat', Int.sub_bmod_bmod, Int.bmod_sub_bmod]

/-! ### Overflow -/

/-- A value at most one turn out of the signed range wraps by one turn or not at all. -/
theorem bmod_cases {x : Int} {m : Nat} (hlo : -m ≤ x) (hhi : x < m) :
    x.bmod m = x ∨ x.bmod m = x + m ∨ x.bmod m = x - m := by
  rw [Int.bmod_def]
  have hmod : x % m = x ∨ x % m = x + m := by
    rcases lt_or_ge x 0 with hneg | hpos
    · exact .inr (by rw [← Int.add_emod_right, Int.emod_eq_of_lt (by omega) (by omega)])
    · exact .inl (Int.emod_eq_of_lt hpos hhi)
  split <;> omega

theorem toInt_range {k : Nat} (hk : 2 ^ n = 2 * k) (x : BitVec n) : -(k : Int) ≤ x.toInt ∧ x.toInt < k := by
  have hlo := x.le_two_mul_toInt
  have hhi := x.two_mul_toInt_lt
  have hpow : (2 : Int) ^ n = 2 * k := by exact_mod_cast hk
  omega

theorem two_pow_eq_two_mul (hn : 0 < n) : 2 ^ n = 2 * 2 ^ (n - 1) := by
  rw [← Nat.pow_succ', Nat.succ_eq_add_one, Nat.sub_add_cancel hn]

/-- Operands of one sign whose sum has the other sign. -/
theorem Flags.add_ofl_iff (f : Flags) (hn : 0 < n) : (f.add a b c).ofl = true ↔
    (a + b + BitVec.ofNat n c.toNat).toInt ≠ a.toInt + b.toInt + c.toNat := by
  have hpow := two_pow_eq_two_mul hn
  have ha := toInt_range hpow a
  have hb := toInt_range hpow b
  have hr := toInt_range hpow (a + b + BitVec.ofNat n c.toNat)
  have hc := c.toNat_le
  have hwrap := bmod_cases (x := a.toInt + b.toInt + c.toNat) (m := 2 ^ n) (by omega) (by omega)
  rw [← toInt_sum] at hwrap
  simp only [Flags.add, BitVec.msb_eq_toInt, Bool.and_eq_true, beq_iff_eq, bne_iff_ne, decide_eq_decide, ne_eq]
  omega

/-- Operands of different signs whose difference has the sign of the subtrahend. -/
theorem Flags.sub_ofl_iff (f : Flags) (hn : 0 < n) : (f.sub a b c).ofl = true ↔
    (a - b - BitVec.ofNat n c.toNat).toInt ≠ a.toInt - b.toInt - c.toNat := by
  have hpow := two_pow_eq_two_mul hn
  have ha := toInt_range hpow a
  have hb := toInt_range hpow b
  have hr := toInt_range hpow (a - b - BitVec.ofNat n c.toNat)
  have hc := c.toNat_le
  have hwrap := bmod_cases (x := a.toInt - b.toInt - c.toNat) (m := 2 ^ n) (by omega) (by omega)
  rw [← toInt_difference] at hwrap
  simp only [Flags.sub, BitVec.msb_eq_toInt, Bool.and_eq_true, bne_iff_ne, decide_eq_decide, ne_eq]
  omega

/-! ### Zero, sign and parity -/

theorem beq_zero_iff_toNat (r : BitVec n) : (r == 0) = true ↔ r.toNat = 0 := by
  rw [beq_iff_eq, BitVec.toNat_eq, BitVec.ofNat_eq_ofNat, BitVec.toNat_zero]

theorem msb_iff_toInt_neg (r : BitVec n) : r.msb = true ↔ r.toInt < 0 := by
  rw [BitVec.msb_eq_toInt, decide_eq_true_iff]

/-- The exclusive or of bits tells whether an odd number of them is set. -/
theorem even_length_filter_iff {α : Type} (p : α → Bool) (l : List α) :
    (l.filter p).length % 2 = 0 ↔ (l.map p).foldr xor false = false := by
  induction l with
  | nil => simp
  | cons x t ih =>
    cases hx : p x
    · simpa [hx] using ih
    · simp only [List.filter_cons, List.map_cons, List.foldr_cons, hx, List.length_cons, if_true, Bool.true_xor]
      rw [Bool.not_eq_false', ← Bool.not_eq_false, ← ih]
      omega

theorem parityEven_iff (r : BitVec n) : parityEven r = true ↔
    ((List.range 8).filter fun k => r.getLsbD k).length % 2 = 0 := by
  rw [even_length_filter_iff]
  simp [parityEven, List.range_succ]

end Arithmetic

end Sys2Proof.Machine

namespace Sys2Proof

theorem Width.bits_pos (w : Width) : 0 < w.bits := by
  cases w <;> decide

end Sys2Proof

namespace Sys2Proof.Machine

/-- Settles O1: the result wraps by at most one turn, and OF says whether it does (`Flags.add_ofl_iff`,
`Flags.sub_ofl_iff`); CF and AF are the model's own comparisons; ZF, SF and PF are those of the result. -/
theorem flagsOfSumAndDifference : Obligations.FlagsOfSumAndDifference := by
  refine ⟨fun w f a b c => ?_, fun w f a b c => ?_⟩
  · exact ⟨toNat_sum, decide_eq_true_iff, f.add_ofl_iff w.bits_pos, decide_eq_true_iff, beq_zero_iff_toNat _,
      msb_iff_toInt_neg _, parityEven_iff _, rfl, rfl, rfl, rfl, rfl, rfl, rfl⟩
  · exact ⟨toNat_difference, decide_eq_true_iff, f.sub_ofl_iff w.bits_pos, decide_eq_true_iff, beq_zero_iff_toNat _,
      msb_iff_toInt_neg _, parityEven_iff _, rfl, rfl, rfl, rfl, rfl, rfl, rfl⟩

end Sys2Proof.Machine

/-! PROOFS. O51: memory with paging off. The addresses of an access come first, then the bytes of a value, then what a
write leaves to be read. -/

namespace Sys2Proof.Machine

/-! ### Addresses with paging off -/

/-- The addresses of `n` bytes from a linear address, modulo 2^32 (R92). -/
def linearAddrs (n : Nat) (lin : BitVec 32) : List Nat := (List.range n).map fun k => (lin + BitVec.ofNat 32 k).toNat

@[simp] theorem linearAddrs_length (n : Nat) (lin : BitVec 32) : (linearAddrs n lin).length = n := by
  simp [linearAddrs]

theorem linearAddrs_succ (n : Nat) (lin : BitVec 32) :
    linearAddrs (n + 1) lin = lin.toNat :: linearAddrs n (lin + 1) := by
  rw [linearAddrs, List.range_succ_eq_map, List.map_cons, List.map_map]
  congr 1
  · simp
  · refine List.map_congr_left fun k _ => ?_
    simp only [Function.comp_apply]
    bv_omega

theorem mem_linearAddrs {n a : Nat} {lin : BitVec 32} :
    a ∈ linearAddrs n lin ↔ ∃ k < n, a = (lin + BitVec.ofNat 32 k).toNat := by
  simp [linearAddrs, eq_comm]

theorem linearAddrs_nodup {n : Nat} (lin : BitVec 32) (hn : n ≤ 2 ^ 32) : (linearAddrs n lin).Nodup := by
  refine List.Nodup.map_on (fun j hj k hk h => ?_) List.nodup_range
  simp only [List.mem_range] at hj hk
  simp only [BitVec.toNat_add, BitVec.toNat_ofNat] at h
  omega

theorem State.physAddr_pagingOff {s : State} (hpg : s.ctrl.cr0.pg = false) (acc : Config.Access) (user : Bool)
    (lin : BitVec 32) : s.physAddr acc user lin = .ok lin.toNat := by
  have hlt : lin.toNat % 2 ^ Config.physBits = lin.toNat := Nat.mod_eq_of_lt lin.isLt
  simp [State.physAddr, hpg, hlt]

theorem State.physAddrs_pagingOff {s : State} (hpg : s.ctrl.cr0.pg = false) (acc : Config.Access) (user : Bool)
    (n : Nat) (lin : BitVec 32) : s.physAddrs acc user n lin = .ok (linearAddrs n lin) := by
  induction n generalizing lin with
  | zero => rfl
  | succ n ih => rw [State.physAddrs, State.physAddr_pagingOff hpg, ih, linearAddrs_succ]

/-! ### The bytes of a value -/

/-- The `k`-th byte of a value holds its eight bits from bit `8 * k` (R91). -/
theorem leBytes_getElem? {m n k : Nat} (v : BitVec m) (hk : k < n) :
    (leBytes n v.toNat)[k]? = some (v.extractLsb' (8 * k) 8) := by
  have hbyte (x : Nat) (h : k < n) : (leBytes n x)[k]? = some (BitVec.ofNat 8 (x / 256 ^ k)) := by
    clear hk
    induction n generalizing k x with
    | zero => omega
    | succ n ih =>
      cases k with
      | zero => simp [leBytes]
      | succ k =>
        rw [leBytes, List.getElem?_cons_succ, ih _ (Nat.lt_of_succ_lt_succ h), Nat.div_div_eq_div_mul, Nat.pow_succ']
  rw [hbyte v.toNat hk, show 256 ^ k = 2 ^ (8 * k) by rw [Nat.pow_mul], ← Nat.shiftRight_eq_div_pow]
  rfl

/-- The bytes of a value at a width, put together again, are the value. -/
theorem ofNat_leNat_leBytes {w : Width} (v : BitVec w.bits) :
    BitVec.ofNat w.bits (leNat (leBytes w.bytes v.toNat)) = v := by
  have hsize : 256 ^ w.bytes = 2 ^ w.bits := by cases w <;> rfl
  rw [leNat_leBytes, hsize, Nat.mod_eq_of_lt v.isLt, BitVec.ofNat_toNat, BitVec.setWidth_eq]

/-! ### Reads after a write -/

theorem SegReg.allows_read_of_write {g : SegReg} (h : g.allows true = true) : g.allows false = true := by
  simp_all [SegReg.allows]

/-- Where a segment may be written it may be read (R95). -/
theorem State.accessOk_read_of_write {s : State} {r : SReg} {off : BitVec 32} {n : Nat}
    (h : s.accessOk r off n true = true) : s.accessOk r off n false = true := by
  simp only [State.accessOk, Bool.and_eq_true, Bool.or_eq_true] at h ⊢
  exact ⟨h.1, h.2.imp_right SegReg.allows_read_of_write⟩

/-- With paging off, all that a write through a segment does: the bytes of the value stand at its addresses. -/
theorem State.memWrite_pagingOff {s t : State} {r : SReg} {w : Width} {off : BitVec 32} {v : BitVec w.bits}
    (hpg : s.ctrl.cr0.pg = false) (h : s.memWrite r w off v = .ok t) :
    s.accessOk r off w.bytes true = true ∧ t = { s.noteStores w.bytes (s.linear r off) with
      mem := memSetBytes s.mem (linearAddrs w.bytes (s.linear r off)) (leBytes w.bytes v.toNat) } := by
  obtain ⟨hacc, ps, hps, ht⟩ := State.memWrite_ok h
  rw [State.physAddrs_pagingOff hpg, Except.ok.injEq] at hps
  exact ⟨hacc, hps ▸ ht⟩

/-- With paging off, a read that the segment allows answers the value of the bytes at its addresses. -/
theorem State.memRead_pagingOff {s : State} {r : SReg} {w : Width} {off : BitVec 32} (hpg : s.ctrl.cr0.pg = false)
    (hacc : s.accessOk r off w.bytes false = true) :
    s.memRead r w off =
      .ok (BitVec.ofNat _ (leNat (memBytes s.mem (linearAddrs w.bytes (s.linear r off))))) := by
  simp [State.memRead, hacc, State.linRead, State.linBytes, State.physAddrs_pagingOff hpg]

/-- Settles O51: with paging off a write and a read through the same segment use the same addresses, no two of them equal,
so the bytes written there are the bytes read there. -/
theorem writesAreReadBackLittleEndian : Obligations.WritesAreReadBackLittleEndian := by
  intro s t r w off v hwf hpg hwrite
  have htwf := State.memWrite_wf hwf hwrite
  obtain ⟨hacc, ht⟩ := State.memWrite_pagingOff hpg hwrite
  have hsegs : t.segs = s.segs := by simp [ht]
  have hctrl : t.ctrl = s.ctrl := by simp [ht]
  have hvm : t.flags.vm = s.flags.vm := by simp [ht]
  have hmem : t.mem = memSetBytes s.mem (linearAddrs w.bytes (s.linear r off)) (leBytes w.bytes v.toNat) := by rw [ht]
  have hn : w.bytes ≤ 2 ^ 32 := by cases w <;> decide
  have hbytes : memBytes t.mem (linearAddrs w.bytes (s.linear r off)) = leBytes w.bytes v.toNat := by
    rw [hmem]
    exact memBytes_memSetBytes_same hwf _ _ (linearAddrs_nodup _ hn) (by simp)
  refine ⟨?_, htwf, fun k hk => ?_, fun a ha => ?_⟩
  · have hread : t.accessOk r off w.bytes false = true := by
      rw [State.accessOk_congr hsegs hctrl hvm]
      exact State.accessOk_read_of_write hacc
    rw [State.memRead_pagingOff (by rw [hctrl, hpg]) hread, State.linear_congr hsegs, hbytes, ofNat_leNat_leBytes]
  · have hbyte : (memBytes t.mem (linearAddrs w.bytes (s.linear r off)))[k]? =
        some (memByte t.mem (s.linear r off + BitVec.ofNat 32 k).toNat) := by
      simp [memBytes, linearAddrs, hk]
    rw [hbytes, leBytes_getElem? v hk, Option.some.injEq] at hbyte
    exact hbyte.symm
  · rw [hmem]
    refine memByte_memSetBytes_other _ _ _ fun hin => ?_
    obtain ⟨k, hk, hak⟩ := mem_linearAddrs.1 hin
    exact ha k hk hak

end Sys2Proof.Machine

/-! PROOFS. O17: what loading a segment register answers. The checks of R97 and R98 come first, as conditions in the order
in which they are made, then the load. -/

namespace Sys2Proof.Machine

section SegmentLoads

variable {s : State} {r : SReg} {sel : BitVec 16} {d : Desc}

theorem isNull_iff : isNull sel = true ↔ sel &&& 0xFFFC = 0 := beq_iff_eq

/-- A check in a sequence decides between the rest and its exception. -/
theorem need_bind_eq_ite {α : Type} (c : Bool) (e : Exc) (f : Unit → Res α) :
    (need c e >>= f) = if c = true then f () else raise e := by
  cases c <;> rfl

theorem State.descOf_of_some {e : Exc} (h : s.descOf? sel = .ok (some d)) : s.descOf sel e = .ok d := by
  simp [State.descOf, h]

theorem State.descOf_of_none {e : Exc} (h : s.descOf? sel = .ok none) : s.descOf sel e = raise e := by
  simp [State.descOf, h]

/-! ### The checks -/

theorem State.checkData_null (h : sel &&& 0xFFFC = 0) : s.checkData sel = .ok (SegReg.null sel) := by
  simp [State.checkData, isNull_iff.2 h]

theorem State.checkData_beyondTable (hsel : sel &&& 0xFFFC ≠ 0) (hd : s.descOf? sel = .ok none) :
    s.checkData sel = raise (excGP (sel &&& 0xFFFC)) := by
  rw [State.checkData, if_neg (mt isNull_iff.1 hsel), State.descOf_of_none hd]
  rfl

/-- The checks of a data segment register on a descriptor, in their order (R97). -/
theorem State.checkData_desc (hsel : sel &&& 0xFFFC ≠ 0) (hd : s.descOf? sel = .ok (some d)) :
    s.checkData sel =
      if ¬ (d.isData ∨ (d.isCode ∧ d.rw)) then raise (excGP (sel &&& 0xFFFC))
      else if ¬ ((d.isCode ∧ d.ce) ∨ (rpl sel ≤ d.dpl ∧ s.cpl ≤ d.dpl)) then raise (excGP (sel &&& 0xFFFC))
      else if ¬ d.present then raise (excNP (sel &&& 0xFFFC))
      else .ok (d.toSeg sel) := by
  rw [State.checkData, if_neg (mt isNull_iff.1 hsel), State.descOf_of_some hd]
  change (need _ _ >>= fun _ => need _ _ >>= fun _ => need _ _ >>= fun _ => _) = _
  simp only [need_bind_eq_ite, ite_not, Desc.readable, Desc.conforming, Bool.or_eq_true, Bool.and_eq_true,
    decide_eq_true_eq, selCode]
  rfl

theorem State.checkStack_null (h : sel &&& 0xFFFC = 0) : s.checkStack sel = raise (excGP 0) := by
  rw [State.checkStack, isNull_iff.2 h]
  rfl

theorem State.checkStack_beyondTable (hsel : sel &&& 0xFFFC ≠ 0) (hd : s.descOf? sel = .ok none) :
    s.checkStack sel = raise (excGP (sel &&& 0xFFFC)) := by
  rw [State.checkStack, need_bind _ (by simpa using mt isNull_iff.1 hsel), State.descOf_of_none hd]
  rfl

/-- The checks of SS on a descriptor: one exception for all but the present bit, so that their order does not show
(R98). -/
theorem State.checkStack_desc (hsel : sel &&& 0xFFFC ≠ 0) (hd : s.descOf? sel = .ok (some d)) :
    s.checkStack sel =
      if ¬ (rpl sel = s.cpl ∧ d.isData ∧ d.rw ∧ d.dpl = s.cpl) then raise (excGP (sel &&& 0xFFFC))
      else if ¬ d.present then raise (excSS (sel &&& 0xFFFC))
      else .ok (d.toSeg sel) := by
  rw [State.checkStack, need_bind _ (by simpa using mt isNull_iff.1 hsel), State.descOf_of_some hd]
  change (need _ _ >>= fun _ => need _ _ >>= fun _ => need _ _ >>= fun _ => need _ _ >>= fun _ => _) = _
  simp only [need_bind_eq_ite, ite_not, Desc.writableData, Bool.and_eq_true, beq_iff_eq, selCode, ite_and]
  rfl

/-! ### The load -/

theorem State.loadSeg_of_check_ok {g : SegReg} (h : s.checkSeg r sel = .ok g) :
    s.loadSeg r sel = .ok (s.setSeg r g) := by
  simp [State.loadSeg, h]

theorem State.loadSeg_of_check_error {e : Exc} (h : s.checkSeg r sel = raise e) : s.loadSeg r sel = raise e := by
  simp [State.loadSeg, h, raise]

theorem State.checkSeg_ss (hp : s.protectedMode = true) : s.checkSeg .ss sel = s.checkStack sel := by
  simp [State.checkSeg, hp]

theorem State.checkSeg_data (hp : s.protectedMode = true) (hr : r ≠ .ss) : s.checkSeg r sel = s.checkData sel := by
  simp [State.checkSeg, hp, hr]

end SegmentLoads

/-- Settles O17: outside Protected Mode the load is `State.loadSeg_real`; in Protected Mode it makes the checks of a data
segment register or of SS (`State.checkData_desc`, `State.checkStack_desc`) and stores what they answer. -/
theorem segmentLoadsCheckTheirSelector : Obligations.SegmentLoadsCheckTheirSelector := by
  refine ⟨fun s r sel hp => ⟨_, State.loadSeg_real r sel hp, rfl, rfl, ?_, rfl⟩, fun s r sel hp => ⟨?_, ?_, ?_, ?_, ?_⟩⟩
  · simp only [SegReg.real]
    bv_omega
  · intro hr h0
    exact ⟨_, State.loadSeg_of_check_ok ((State.checkSeg_data hp hr).trans (State.checkData_null h0)), rfl, rfl⟩
  · rintro rfl h0
    exact State.loadSeg_of_check_error ((State.checkSeg_ss hp).trans (State.checkStack_null h0))
  · intro h0 hd
    by_cases hr : r = .ss
    · subst hr
      exact State.loadSeg_of_check_error ((State.checkSeg_ss hp).trans (State.checkStack_beyondTable h0 hd))
    · exact State.loadSeg_of_check_error ((State.checkSeg_data hp hr).trans (State.checkData_beyondTable h0 hd))
  · intro d hr h0 hd
    rw [State.loadSeg, State.checkSeg_data hp hr, State.checkData_desc h0 hd]
    split_ifs <;> rfl
  · rintro d rfl h0 hd
    rw [State.loadSeg, State.checkSeg_ss hp, State.checkStack_desc h0 hd]
    split_ifs <;> rfl

end Sys2Proof.Machine

/-! PROOFS. O57: the decoder reads back what the encoder writes (`decode_encode`), and the fetch reads it from memory. The
fields of a byte come first, then each operand, then the row of the opcode table, which the opcode bytes of an instruction
find, then the bytes in memory. -/

namespace Sys2Proof

/-! ### Fields and codes -/

@[simp] theorem modField_fieldsByte (hi : BitVec 2) (mid lo : BitVec 3) : modField (fieldsByte hi mid lo) = hi := by
  revert hi mid lo
  decide +kernel

@[simp] theorem regField_fieldsByte (hi : BitVec 2) (mid lo : BitVec 3) : regField (fieldsByte hi mid lo) = mid := by
  revert hi mid lo
  decide +kernel

@[simp] theorem rmField_fieldsByte (hi : BitVec 2) (mid lo : BitVec 3) : rmField (fieldsByte hi mid lo) = lo := by
  revert hi mid lo
  decide +kernel

@[simp] theorem Reg.ofCode_code (r : Reg) : Reg.ofCode r.code = r := by cases r <;> rfl

theorem Reg.code_ofCode (c : BitVec 3) : (Reg.ofCode c).code = c := by
  revert c
  decide

theorem Reg.code_eq_four {r : Reg} : r.code = 4#3 ↔ r = .esp := by cases r <;> decide

theorem Reg.code_eq_five {r : Reg} : r.code = 5#3 ↔ r = .ebp := by cases r <;> decide

@[simp] theorem Base16.ofCode_code (b : Base16) : Base16.ofCode b.code = b := by cases b <;> rfl

theorem Base16.code_eq_six {b : Base16} : b.code = 6#3 ↔ b = .bp := by cases b <;> decide

@[simp] theorem Disp.mod_ne_three {n : Nat} (d : Disp n) : d.mod ≠ 3#2 := by cases d <;> simp [Disp.mod]

theorem Disp.mod_eq_zero {n : Nat} {d : Disp n} : d.mod = 0#2 ↔ d = .none := by cases d <;> simp [Disp.mod]

/-! ### Immediates and displacements -/

@[simp] theorem take8_cons (b : Byte) (t : List Byte) : take8 (b :: t) = some (b, t) := rfl

@[simp] theorem take16_bytes16 (v : BitVec 16) (t : List Byte) : take16 (bytes16 v ++ t) = some (v, t) := by
  have h : v.extractLsb' 8 8 ++ v.extractLsb' 0 8 = v := by
    rw [BitVec.extractLsb'_append_extractLsb'_eq_extractLsb' (by rfl), BitVec.extractLsb'_eq_self]
  simp [bytes16, take16, h]

@[simp] theorem take32_bytes32 (v : BitVec 32) (t : List Byte) : take32 (bytes32 v ++ t) = some (v, t) := by
  have h : v.extractLsb' 24 8 ++ v.extractLsb' 16 8 ++ v.extractLsb' 8 8 ++ v.extractLsb' 0 8 = v := by
    rw [BitVec.extractLsb'_append_extractLsb'_eq_extractLsb' (by rfl),
      BitVec.extractLsb'_append_extractLsb'_eq_extractLsb' (by rfl),
      BitVec.extractLsb'_append_extractLsb'_eq_extractLsb' (by rfl), BitVec.extractLsb'_eq_self]
  simp [bytes32, take32, h]

theorem takeV_encode : ∀ {sz : Size} {i : VImm}, i.hasSize sz = true → ∀ t, takeV sz (i.encode ++ t) = some (i, t)
  | .s16, .w16 v, _, t => by simp [VImm.encode, takeV]
  | .s32, .w32 v, _, t => by simp [VImm.encode, takeV]

@[simp] theorem takeDisp16_encode (d : Disp 16) (t : List Byte) :
    takeDisp16 d.mod (encodeDisp16 d ++ t) = some (d, t) := by
  cases d <;> simp [Disp.mod, encodeDisp16, takeDisp16]

@[simp] theorem takeDisp32_encode (d : Disp 32) (t : List Byte) :
    takeDisp32 d.mod (encodeDisp32 d ++ t) = some (d, t) := by
  cases d <;> simp [Disp.mod, encodeDisp32, takeDisp32]

/-! ### Memory operands -/

/-- The place of BP without a displacement, which is that of a displacement alone (R145), is not taken. -/
theorem Base16.not_absolute {b : Base16} {d : Disp 16} (h : b.dispOk d = true) : ¬ (d.mod = 0#2 ∧ b.code = 6#3) := by
  rintro ⟨hd, hb⟩
  obtain rfl := Disp.mod_eq_zero.1 hd
  obtain rfl := Base16.code_eq_six.1 hb
  cases h

/-- The place of EBP without a displacement, which is that of a displacement alone (R146, R147), is not taken. -/
theorem Reg.not_absolute {b : Reg} {d : Disp 32} (h : b.dispOk d = true) : ¬ (d.mod = 0#2 ∧ b.code = 5#3) := by
  rintro ⟨hd, hb⟩
  obtain rfl := Disp.mod_eq_zero.1 hd
  obtain rfl := Reg.code_eq_five.1 hb
  cases h

/-- A SIB byte names its index; ESP's code means none (R147). -/
theorem indexOf_fieldsByte {x : Option Reg} (h : x ≠ some .esp) (hi : BitVec 2) (lo : BitVec 3) :
    indexOf (fieldsByte hi (indexCode x) lo) = x := by
  rw [indexOf, regField_fieldsByte]
  cases x with
  | none => rfl
  | some r =>
    have hr : r ≠ .esp := fun hr => h (congrArg some hr)
    simp [indexCode, Reg.code_eq_four, hr]

/-- A ModR/M byte and what follows it are read back (R144 to R147). -/
theorem takeModRM_encode {as : Size} {rm : RM} (h : rm.wf as = true) (g : BitVec 3) (t : List Byte) :
    takeModRM as (rm.encode g ++ t) = some ((g, rm), t) := by
  cases rm with
  | reg r => simp [RM.encode, takeModRM, takeRM]
  | mem ea =>
    cases as with
    | s16 =>
      cases ea with
      | a16 b d => simp [RM.encode, EA.encode, takeModRM, takeRM, takeEA16, Base16.not_absolute (b := b) h]
      | a16abs d => simp [RM.encode, EA.encode, takeModRM, takeRM, takeEA16]
      | a32 | a32abs | sib | sibNoBase => cases h
    | s32 =>
      cases ea with
      | a16 | a16abs => cases h
      | a32 b d =>
        obtain ⟨hb, hd⟩ := Bool.and_eq_true_iff.1 h
        simp [RM.encode, EA.encode, takeModRM, takeRM, takeEA32, Reg.code_eq_four, bne_iff_ne.1 hb, Reg.not_absolute hd]
      | a32abs d => simp [RM.encode, EA.encode, takeModRM, takeRM, takeEA32]
      | sib sc x b d =>
        obtain ⟨hx, hd⟩ := Bool.and_eq_true_iff.1 h
        simp [RM.encode, EA.encode, takeModRM, takeRM, takeEA32, takeSib, indexOf_fieldsByte (bne_iff_ne.1 hx),
          Reg.not_absolute hd]
      | sibNoBase sc x d =>
        simp [RM.encode, EA.encode, takeModRM, takeRM, takeEA32, takeSib, indexOf_fieldsByte (bne_iff_ne.1 h)]

/-- The byte after the opcode is the ModR/M byte, with its reg field. -/
theorem head_encode (rm : RM) (g : BitVec 3) (t : List Byte) : (rm.encode g ++ t).head?.map regField = some g := by
  rcases rm with r | ea
  · simp [RM.encode]
  · cases ea <;> simp [RM.encode, EA.encode]

/-! ### The operands of a row -/

/-- How the operands lie after the opcode. -/
def Operands.shape : Operands → Shape
  | .none => .none
  | .plus _ => .plus
  | .plusImm8 _ _ => .plusImm8
  | .plusImmV _ _ => .plusImmV
  | .modrm _ _ => .modrm
  | .modrmImm8 _ _ _ => .modrmImm8
  | .modrmImmV _ _ _ => .modrmImmV
  | .imm8 _ => .imm8
  | .imm16 _ => .imm16
  | .immV _ => .immV
  | .imm16Imm8 _ _ => .imm16Imm8
  | .moffs _ => .moffs
  | .far _ _ => .far
  | .special _ _ => .special
  | .esc _ _ _ => .esc

/-- The low three bits of the opcode byte where they hold an operand (R150), else the given ones. -/
def Operands.low (dflt : BitVec 3) : Operands → BitVec 3
  | .plus r => r.code
  | .plusImm8 r _ => r.code
  | .plusImmV r _ => r.code
  | .esc op _ _ => op
  | _ => dflt

/-- The reg field after the opcode where the operands have a ModR/M byte, else the given one. -/
def Operands.digit (dflt : Option (BitVec 3)) : Operands → Option (BitVec 3)
  | .modrm g _ => some g
  | .modrmImm8 g _ _ => some g
  | .modrmImmV g _ _ => some g
  | .special g _ => some g
  | .esc _ g _ => some g
  | _ => dflt

/-- What the decoder looks at beside the opcode is the reg field of the operands that have one. -/
theorem Operands.digit_encode (o : Operands) (t : List Byte) :
    o.digit ((o.encode ++ t).head?.map regField) = (o.encode ++ t).head?.map regField := by
  cases o with
  | modrm | modrmImm8 | modrmImmV | esc => simp only [Operands.encode, Operands.digit, List.append_assoc, head_encode]
  | special => simp [Operands.encode, Operands.digit]
  | none | plus | plusImm8 | plusImmV | imm8 | imm16 | immV | imm16Imm8 | moffs | far => rfl

/-- The operands of a row are read back, behind an opcode byte that holds its part of them. -/
theorem takeOperands_encode {os as : Size} {op : Byte} {o : Operands} (h : o.wf os as = true)
    (hop : o.low (rmField op) = rmField op) (t : List Byte) :
    takeOperands os as op o.shape (o.encode ++ t) = some (o, t) := by
  cases o with
  | none => rfl
  | plus | plusImm8 =>
    simp only [Operands.low] at hop
    simp [takeOperands, Operands.shape, Operands.encode, ← hop]
  | plusImmV =>
    simp only [Operands.low] at hop
    simp [takeOperands, Operands.shape, Operands.encode, ← hop, takeV_encode h]
  | modrm | modrmImm8 => simp [takeOperands, Operands.shape, Operands.encode, takeModRM_encode h]
  | modrmImmV =>
    obtain ⟨hrm, hi⟩ := Bool.and_eq_true_iff.1 h
    simp [takeOperands, Operands.shape, Operands.encode, takeModRM_encode hrm, takeV_encode hi]
  | imm8 | imm16 | imm16Imm8 => simp [takeOperands, Operands.shape, Operands.encode]
  | immV | moffs | far => simp [takeOperands, Operands.shape, Operands.encode, takeV_encode h]
  | special => simp [takeOperands, Operands.shape, Operands.encode]
  | esc =>
    simp only [Operands.low] at hop
    simp [takeOperands, Operands.shape, Operands.encode, ← hop, takeModRM_encode h]


/-! ### Rows of the opcode table -/

/-- No opcode byte with its reg field makes both rows apply: their fixed bits differ, or their digits do. -/
def OpRow.apart (a b : OpRow) : Bool :=
  !Nat.beq (a.code.toNat &&& b.mask.toNat) (b.code.toNat &&& a.mask.toNat) ||
    (a.digit.isSome && b.digit.isSome && a.digit != b.digit)

/-- Rows of different parts are apart. -/
def apartParts : List (List OpRow) → Bool
  | [] => true
  | p :: parts => (p.all fun a => parts.all fun q => q.all fun b => a.apart b) && apartParts parts

theorem OpRow.applies_iff {a : OpRow} {op : Byte} {d : Option (BitVec 3)} :
    a.applies op d = true ↔ op &&& a.mask = a.code ∧ (a.digit = none ∨ a.digit = d) := by
  simp [OpRow.applies]

theorem OpRow.not_applies_of_apart {a b : OpRow} {op : Byte} {d : Option (BitVec 3)} (h : a.apart b = true)
    (hb : b.applies op d = true) : a.applies op d = false := by
  refine Bool.eq_false_iff.2 fun ha => ?_
  obtain ⟨hacode, hadigit⟩ := OpRow.applies_iff.1 ha
  obtain ⟨hbcode, hbdigit⟩ := OpRow.applies_iff.1 hb
  have hcode : a.code &&& b.mask = b.code &&& a.mask := by
    rw [← hacode, ← hbcode, BitVec.and_assoc, BitVec.and_assoc, BitVec.and_comm a.mask]
  simp only [OpRow.apart, ← BitVec.toNat_and, hcode, Bool.or_eq_true, Bool.and_eq_true, Option.isSome_iff_ne_none,
    bne_iff_ne, Nat.beq_refl, Bool.not_true, Bool.false_eq_true, false_or] at h
  obtain ⟨⟨han, hbn⟩, hab⟩ := h
  exact hab ((hadigit.resolve_left han).trans (hbdigit.resolve_left hbn).symm)

/-- In a table of parts that are apart, the row that one part finds is the row the table finds. -/
theorem find?_flatten_of_apart {parts : List (List OpRow)} {p : List OpRow} {op : Byte} {d : Option (BitVec 3)}
    {r : OpRow} (hparts : apartParts parts = true) (hp : p ∈ parts) (hr : p.find? (·.applies op d) = some r) :
    parts.flatten.find? (·.applies op d) = some r := by
  induction parts with
  | nil => cases hp
  | cons q parts ih =>
    obtain ⟨hq, hparts⟩ := Bool.and_eq_true_iff.1 hparts
    simp only [List.all_eq_true] at hq
    rw [List.flatten_cons, List.find?_append]
    obtain rfl | hp := List.mem_cons.1 hp
    · rw [hr, Option.some_or]
    · have hrow : r.applies op d = true := List.find?_some (p := fun a : OpRow => a.applies op d) hr
      have hnone : q.find? (·.applies op d) = none := List.find?_eq_none.2 fun a ha => by
        simp [OpRow.not_applies_of_apart (hq a ha p hp r (List.mem_of_find?_eq_some hr)) hrow]
      rw [hnone, Option.none_or, ih hparts hp]

/-- The parts of the one-byte opcode map. -/
def oneByteParts : List (List OpRow) :=
  [oneByteRowsPart0, oneByteRowsPart1, oneByteRowsPart2, oneByteRowsPart3, oneByteRowsPart4, oneByteRowsPart5,
    oneByteRowsPart6, oneByteRowsPart7, oneByteRowsPart8, oneByteRowsPart9, oneByteRowsPart10, oneByteRowsPart11]

/-- The parts of the two-byte opcode map. -/
def twoByteParts : List (List OpRow) := [twoByteRowsPart0, twoByteRowsPart1, twoByteRowsPart2, twoByteRowsPart3]

theorem oneByteRows_eq : oneByteRows = oneByteParts.flatten := by simp [oneByteRows, oneByteParts]

theorem twoByteRows_eq : twoByteRows = twoByteParts.flatten := by simp [twoByteRows, twoByteParts]

/-- Evaluated on the table: what lets an opcode be looked up in its part alone. -/
theorem oneByteParts_apart : apartParts oneByteParts = true := by decide +kernel

/-- Evaluated on the table: what lets an opcode be looked up in its part alone. -/
theorem twoByteParts_apart : apartParts twoByteParts = true := by decide +kernel

/-- Opcode bytes, the last of them `op`, whose row, with reg field `d` after them, is `r`. -/
inductive OpcodeRow (d : Option (BitVec 3)) : List Byte → Byte → OpRow → Prop
  | one {op : Byte} {r : OpRow} : op ≠ 0x0F#8 → oneByteRows.find? (·.applies op d) = some r → OpcodeRow d [op] op r
  | two {op : Byte} {r : OpRow} : twoByteRows.find? (·.applies op d) = some r → OpcodeRow d [0x0F, op] op r

/-- The `k`-th part of the one-byte map finds the row. -/
theorem OpcodeRow.onePart {d : Option (BitVec 3)} {op : Byte} {r : OpRow} (k : Nat)
    (hr : (oneByteParts[k]?.bind fun p => p.find? (·.applies op d)) = some r) (hop : op ≠ 0x0F#8) :
    OpcodeRow d [op] op r := by
  obtain ⟨p, hp, hr⟩ := Option.bind_eq_some_iff.1 hr
  exact .one hop (oneByteRows_eq ▸ find?_flatten_of_apart oneByteParts_apart (List.mem_of_getElem? hp) hr)

/-- The `k`-th part of the two-byte map finds the row. -/
theorem OpcodeRow.twoPart {d : Option (BitVec 3)} {op : Byte} {r : OpRow} (k : Nat)
    (hr : (twoByteParts[k]?.bind fun p => p.find? (·.applies op d)) = some r) : OpcodeRow d [0x0F, op] op r := by
  obtain ⟨p, hp, hr⟩ := Option.bind_eq_some_iff.1 hr
  exact .two (twoByteRows_eq ▸ find?_flatten_of_apart twoByteParts_apart (List.mem_of_getElem? hp) hr)

/-- The row that an instruction's opcode and reg field find has the shape of its operands and makes of them the
instruction; `d` is the reg field where the operands have none of their own. -/
def Instr.HasRow (d : Option (BitVec 3)) (i : Instr) : Prop :=
  ∃ op r, OpcodeRow (i.operands.digit d) i.opcode op r ∧ r.shape = i.operands.shape ∧
    r.build i.operands = some i ∧ i.operands.low (rmField op) = rmField op

theorem bRmR_code (f : RM → Reg → Instr) (rm : RM) (r : Reg) : bRmR f (.modrm r.code rm) = some (f rm r) := by
  simp [bRmR]

theorem bRRm_code (f : Reg → RM → Instr) (r : Reg) (rm : RM) : bRRm f (.modrm r.code rm) = some (f r rm) := by
  simp [bRRm]

theorem bRRmImm8_code (f : Reg → RM → BitVec 8 → Instr) (r : Reg) (rm : RM) (i : BitVec 8) :
    bRRmImm8 f (.modrmImm8 r.code rm i) = some (f r rm i) := by
  simp [bRRmImm8]

theorem bRRmImmV_code (f : Reg → RM → VImm → Instr) (r : Reg) (rm : RM) (i : VImm) :
    bRRmImmV f (.modrmImmV r.code rm i) = some (f r rm i) := by
  simp [bRRmImmV]

theorem bRmRImm8_code (f : RM → Reg → BitVec 8 → Instr) (rm : RM) (r : Reg) (i : BitVec 8) :
    bRmRImm8 f (.modrmImm8 r.code rm i) = some (f rm r i) := by
  simp [bRmRImm8]

/-- Every instruction but `XCHG eAX,eAX` has its row (R152 to R154, R160). The instructions of one part of the table whose
operands are built alike share a case. -/
theorem Instr.hasRow {i : Instr} (h : i ≠ .xchgEaxRv .eax) (d : Option (BitVec 3)) : i.HasRow d := by
  cases i with
  -- oneByteRowsPart0
  | addAlImm8 | addEaxImmv | pushEs | popEs | orAlImm8 | orEaxImmv | pushCs | adcAlImm8 | adcEaxImmv | pushSs
  | popSs =>
    exact ⟨_, _, .onePart 0 rfl (by decide), rfl, rfl, rfl⟩
  | addRm8R8 | addRmvRv | orRm8R8 | orRmvRv | adcRm8R8 | adcRmvRv | sbbRm8R8 =>
    exact ⟨_, _, .onePart 0 rfl (by decide), rfl, bRmR_code _ _ _, rfl⟩
  | addR8Rm8 | addRvRmv | orR8Rm8 | orRvRmv | adcR8Rm8 | adcRvRmv =>
    exact ⟨_, _, .onePart 0 rfl (by decide), rfl, bRRm_code _ _ _, rfl⟩
  -- oneByteRowsPart1
  | sbbAlImm8 | sbbEaxImmv | pushDs | popDs | andAlImm8 | andEaxImmv | segEs | daa | subAlImm8 | subEaxImmv
  | segCs | das =>
    exact ⟨_, _, .onePart 1 rfl (by decide), rfl, rfl, rfl⟩
  | sbbRmvRv | andRm8R8 | andRmvRv | subRm8R8 | subRmvRv | xorRm8R8 =>
    exact ⟨_, _, .onePart 1 rfl (by decide), rfl, bRmR_code _ _ _, rfl⟩
  | sbbR8Rm8 | sbbRvRmv | andR8Rm8 | andRvRmv | subR8Rm8 | subRvRmv =>
    exact ⟨_, _, .onePart 1 rfl (by decide), rfl, bRRm_code _ _ _, rfl⟩
  -- oneByteRowsPart2
  | xorAlImm8 | xorEaxImmv | segSs | aaa | cmpAlImm8 | cmpEaxImmv | segDs | aas | pusha | popa | segFs =>
    exact ⟨_, _, .onePart 2 rfl (by decide), rfl, rfl, rfl⟩
  | xorRmvRv | cmpRm8R8 | cmpRmvRv | arpl =>
    exact ⟨_, _, .onePart 2 rfl (by decide), rfl, bRmR_code _ _ _, rfl⟩
  | xorR8Rm8 | xorRvRmv | cmpR8Rm8 | cmpRvRmv | bound =>
    exact ⟨_, _, .onePart 2 rfl (by decide), rfl, bRRm_code _ _ _, rfl⟩
  | incRv r | decRv r | pushRv r | popRv r =>
    cases r <;> exact ⟨_, _, .onePart 2 rfl (by decide), rfl, rfl, rfl⟩
  -- oneByteRowsPart3
  | segGs | opsize | addrsize | pushImmv | pushImm8 | insB | insV | outsB | outsV =>
    exact ⟨_, _, .onePart 3 rfl (by decide), rfl, rfl, rfl⟩
  | imulRvRmvImmv =>
    exact ⟨_, _, .onePart 3 rfl (by decide), rfl, bRRmImmV_code _ _ _ _, rfl⟩
  | imulRvRmvImm8 =>
    exact ⟨_, _, .onePart 3 rfl (by decide), rfl, bRRmImm8_code _ _ _ _, rfl⟩
  -- oneByteRowsPart4
  | addRm8Imm8 | orRm8Imm8 | adcRm8Imm8 | sbbRm8Imm8 | andRm8Imm8 | subRm8Imm8 | xorRm8Imm8 | cmpRm8Imm8
  | addRmvImmv | orRmvImmv | adcRmvImmv | sbbRmvImmv | andRmvImmv | subRmvImmv | xorRmvImmv | cmpRmvImmv
  | addRmvImm8 | orRmvImm8 | adcRmvImm8 | sbbRmvImm8 | andRmvImm8 =>
    exact ⟨_, _, .onePart 4 rfl (by decide), rfl, rfl, rfl⟩
  -- oneByteRowsPart5
  | subRmvImm8 | xorRmvImm8 | cmpRmvImm8 | movRmSreg | movSregRm | popRmv | nop | cbw | cwd | callFar | wait
  | pushf | popf | sahf =>
    exact ⟨_, _, .onePart 5 rfl (by decide), rfl, rfl, rfl⟩
  | testRm8R8 | testRmvRv | xchgRm8R8 | xchgRmvRv | movRm8R8 | movRmvRv =>
    exact ⟨_, _, .onePart 5 rfl (by decide), rfl, bRmR_code _ _ _, rfl⟩
  | movR8Rm8 | movRvRmv | lea =>
    exact ⟨_, _, .onePart 5 rfl (by decide), rfl, bRRm_code _ _ _, rfl⟩
  | xchgEaxRv r =>
    cases r with
    | eax => exact absurd rfl h
    | ecx | edx | ebx | esp | ebp | esi | edi => exact ⟨_, _, .onePart 5 rfl (by decide), rfl, rfl, rfl⟩
  -- oneByteRowsPart6
  | lahf | movAlMoffs | movEaxMoffs | movMoffsAl | movMoffsEax | movsB | movsV | cmpsB | cmpsV | testAlImm8
  | testEaxImmv | stosB | stosV | lodsB | lodsV | scasB | scasV =>
    exact ⟨_, _, .onePart 6 rfl (by decide), rfl, rfl, rfl⟩
  | movR8Imm8 r | movRvImmv r => cases r <;> exact ⟨_, _, .onePart 6 rfl (by decide), rfl, rfl, rfl⟩
  -- oneByteRowsPart7
  | retNearImm | retNear | movRm8Imm8 | movRmvImmv | enter | leave | retFarImm | retFar | int3 | intN | into
  | iret =>
    exact ⟨_, _, .onePart 7 rfl (by decide), rfl, rfl, rfl⟩
  | les | lds =>
    exact ⟨_, _, .onePart 7 rfl (by decide), rfl, bRRm_code _ _ _, rfl⟩
  -- oneByteRowsPart9
  | aam | aad | xlat | loopneRel8 | loopeRel8 | loopRel8 | jcxzRel8 | inAlImm8 | inEaxImm8 | outImm8Al
  | outImm8Eax | callRelv | jmpRelv | jmpFar | jmpRel8 | inAlDx | inEaxDx | outDxAl | outDxEax | lock =>
    exact ⟨_, _, .onePart 9 rfl (by decide), rfl, rfl, rfl⟩
  | esc op g rm =>
    rw [← Reg.code_ofCode op]
    cases Reg.ofCode op <;> exact ⟨_, _, .onePart 9 rfl (by decide), rfl, rfl, rfl⟩
  -- oneByteRowsPart10
  | repne | rep | hlt | cmc | testRm8Imm8 | notRm8 | negRm8 | mulRm8 | imulRm8 | divRm8 | idivRm8 | testRmvImmv
  | notRmv | negRmv | mulRmv | imulRmv | divRmv | idivRmv | clc | stc | cli | sti | cld | std =>
    exact ⟨_, _, .onePart 10 rfl (by decide), rfl, rfl, rfl⟩
  -- oneByteRowsPart11
  | incRm8 | decRm8 | incRmv | decRmv | callRmv | callFarM | jmpRmv | jmpFarM | pushRmv =>
    exact ⟨_, _, .onePart 11 rfl (by decide), rfl, rfl, rfl⟩
  -- twoByteRowsPart0
  | sldt | str | lldt | ltr | verr | verw | sgdt | sidt | lgdt | lidt | smsw | lmsw | clts | movRCr | movRDr
  | movCrR | movDrR | movRTr | movTrR =>
    exact ⟨_, _, .twoPart 0 rfl, rfl, rfl, rfl⟩
  | lar | lsl =>
    exact ⟨_, _, .twoPart 0 rfl, rfl, bRRm_code _ _ _, rfl⟩
  -- twoByteRowsPart1
  | seto | setno | setb | setnb | setz | setnz | setbe | setnbe | sets | setns | setp =>
    exact ⟨_, _, .twoPart 1 rfl, rfl, rfl, rfl⟩
  -- twoByteRowsPart2
  | setnp | setl | setnl | setle | setnle | pushFs | popFs | pushGs | popGs | btRmvImm8 | btsRmvImm8 =>
    exact ⟨_, _, .twoPart 2 rfl, rfl, rfl, rfl⟩
  | btRmvRv | shldCl | btsRmvRv | shrdCl | btrRmvRv =>
    exact ⟨_, _, .twoPart 2 rfl, rfl, bRmR_code _ _ _, rfl⟩
  | shldImm8 | shrdImm8 =>
    exact ⟨_, _, .twoPart 2 rfl, rfl, bRmRImm8_code _ _ _ _, rfl⟩
  | imulRvRmv | lss | lfs | lgs | movzxRm8 | movzxRm16 =>
    exact ⟨_, _, .twoPart 2 rfl, rfl, bRRm_code _ _ _, rfl⟩
  -- twoByteRowsPart3
  | btrRmvImm8 | btcRmvImm8 =>
    exact ⟨_, _, .twoPart 3 rfl, rfl, rfl, rfl⟩
  | btcRmvRv =>
    exact ⟨_, _, .twoPart 3 rfl, rfl, bRmR_code _ _ _, rfl⟩
  | bsf | bsr | movsxRm8 | movsxRm16 =>
    exact ⟨_, _, .twoPart 3 rfl, rfl, bRRm_code _ _ _, rfl⟩
  -- the two opcodes of a conditional jump
  | jo rel | jno rel | jb rel =>
    cases rel with
    | short => exact ⟨_, _, .onePart 3 rfl (by decide), rfl, rfl, rfl⟩
    | near => exact ⟨_, _, .twoPart 0 rfl, rfl, rfl, rfl⟩
  | jnb rel | jz rel | jnz rel | jbe rel | jnbe rel | js rel | jns rel | jp rel | jnp rel | jl rel =>
    cases rel with
    | short => exact ⟨_, _, .onePart 3 rfl (by decide), rfl, rfl, rfl⟩
    | near => exact ⟨_, _, .twoPart 1 rfl, rfl, rfl, rfl⟩
  | jnl rel | jle rel | jnle rel =>
    cases rel with
    | short => exact ⟨_, _, .onePart 4 rfl (by decide), rfl, rfl, rfl⟩
    | near => exact ⟨_, _, .twoPart 1 rfl, rfl, rfl, rfl⟩
  -- the three opcodes of a shift or rotate
  | rolRm8 rm count =>
    cases count with
    | imm => exact ⟨_, _, .onePart (op := 0xC0) 6 rfl (by decide), rfl, rfl, rfl⟩
    | one => exact ⟨_, _, .onePart 7 rfl (by decide), rfl, rfl, rfl⟩
    | cl => exact ⟨_, _, .onePart 8 rfl (by decide), rfl, rfl, rfl⟩
  | rorRm8 rm count | rclRm8 rm count | rcrRm8 rm count | shlRm8 rm count =>
    cases count with
    | imm => exact ⟨_, _, .onePart (op := 0xC0) 6 rfl (by decide), rfl, rfl, rfl⟩
    | one | cl => exact ⟨_, _, .onePart 8 rfl (by decide), rfl, rfl, rfl⟩
  | shrRm8 rm count | sarRm8 rm count =>
    cases count with
    | imm => exact ⟨_, _, .onePart (op := 0xC0) 7 rfl (by decide), rfl, rfl, rfl⟩
    | one | cl => exact ⟨_, _, .onePart 8 rfl (by decide), rfl, rfl, rfl⟩
  | rolRmv rm count | rorRmv rm count | rclRmv rm count | rcrRmv rm count =>
    cases count with
    | imm => exact ⟨_, _, .onePart (op := 0xC1) 7 rfl (by decide), rfl, rfl, rfl⟩
    | one | cl => exact ⟨_, _, .onePart 8 rfl (by decide), rfl, rfl, rfl⟩
  | shlRmv rm count | shrRmv rm count | sarRmv rm count =>
    cases count with
    | imm => exact ⟨_, _, .onePart (op := 0xC1) 7 rfl (by decide), rfl, rfl, rfl⟩
    | one => exact ⟨_, _, .onePart 8 rfl (by decide), rfl, rfl, rfl⟩
    | cl => exact ⟨_, _, .onePart 9 rfl (by decide), rfl, rfl, rfl⟩

/-! ### Decoding an encoding -/

/-- The row of the opcode bytes decides how the bytes after them are decoded. -/
theorem decode_of_opcodeRow {os as : Size} {opc bs rest : List Byte} {op : Byte} {r : OpRow} {o : Operands} {i : Instr}
    (h : OpcodeRow (bs.head?.map regField) opc op r) (ho : takeOperands os as op r.shape bs = some (o, rest))
    (hi : r.build o = some i) : decode os as (opc ++ bs) = .ok i rest := by
  cases h with
  | one hop hr => simp [decode, decodeRow, hop, hr, ho, hi]
  | two hr => simp [decode, decodeRow, hr, ho, hi]

/-- The decoder reads back the encoding of a well-formed instruction, whatever bytes follow (R140 to R161). -/
theorem decode_encode {os as : Size} {i : Instr} (h : i.wellFormed os as = true) (rest : List Byte) :
    decode os as (encode i ++ rest) = .ok i rest := by
  obtain ⟨hwf, hne⟩ := Bool.and_eq_true_iff.1 h
  obtain ⟨op, r, hopc, hshape, hbuild, hlow⟩ :=
    Instr.hasRow (bne_iff_ne.1 hne) ((i.operands.encode ++ rest).head?.map regField)
  rw [Operands.digit_encode] at hopc
  rw [encode, List.append_assoc]
  exact decode_of_opcodeRow hopc (hshape ▸ takeOperands_encode hwf hlow rest) hbuild

/-! ### The length of an encoding -/

theorem VImm.encode_length_le (i : VImm) : i.encode.length ≤ 4 := by
  cases i <;> simp [VImm.encode, bytes16, bytes32]

theorem encodeDisp16_length_le (d : Disp 16) : (encodeDisp16 d).length ≤ 2 := by
  cases d <;> simp [encodeDisp16, bytes16]

theorem encodeDisp32_length_le (d : Disp 32) : (encodeDisp32 d).length ≤ 4 := by
  cases d <;> simp [encodeDisp32, bytes32]

/-- At most ModR/M, SIB and four bytes of displacement. -/
theorem RM.encode_length_le (g : BitVec 3) (rm : RM) : (rm.encode g).length ≤ 6 := by
  rcases rm with r | ea
  · simp [RM.encode]
  · cases ea with
    | a16 b d =>
      have := encodeDisp16_length_le d
      simp only [RM.encode, EA.encode, List.length_cons]
      omega
    | a32 b d | sib sc x b d =>
      have := encodeDisp32_length_le d
      simp only [RM.encode, EA.encode, List.length_cons]
      omega
    | a16abs | a32abs | sibNoBase => simp [RM.encode, EA.encode, bytes16, bytes32]

/-- Only an operand with an immediate of the operand size behind it is longer than nine bytes. -/
theorem Operands.encode_length_le (o : Operands) : o.encode.length ≤ if o.shape = .modrmImmV then 10 else 9 := by
  cases o with
  | none | plus | plusImm8 | imm8 | special | imm16 | imm16Imm8 =>
    simp [Operands.encode, Operands.shape, bytes16]
  | plusImmV _ i | immV i | moffs i | far i =>
    have := i.encode_length_le
    simp only [Operands.encode, Operands.shape, bytes16, List.length_append, List.length_cons, List.length_nil,
      reduceCtorEq, if_false]
    omega
  | modrm g rm | modrmImm8 g rm | esc _ g rm =>
    have := rm.encode_length_le g
    simp only [Operands.encode, Operands.shape, List.length_append, List.length_cons, List.length_nil, reduceCtorEq,
      if_false]
    omega
  | modrmImmV g rm i =>
    have := rm.encode_length_le g
    have := i.encode_length_le
    simp only [Operands.encode, Operands.shape, List.length_append, if_true]
    omega

theorem twoByteRows_not_modrmImmV {r : OpRow} (h : r ∈ twoByteRows) : r.shape ≠ .modrmImmV := by
  have hall : (twoByteRows.all fun r => r.shape != .modrmImmV) = true := by decide +kernel
  simpa using List.all_eq_true.1 hall r h

/-- No encoding is longer than the longest row of the opcode table. -/
theorem encode_length_le {i : Instr} (h : i ≠ .xchgEaxRv .eax) : (encode i).length ≤ Machine.longestRow := by
  obtain ⟨op, r, hopc, hshape, -⟩ := Instr.hasRow h none
  have hlen := i.operands.encode_length_le
  rw [← hshape] at hlen
  rw [encode, List.length_append, Machine.longestRow]
  generalize i.opcode = opc at hopc ⊢
  cases hopc with
  | one =>
    rw [List.length_singleton]
    split at hlen <;> omega
  | two hr =>
    rw [if_neg (twoByteRows_not_modrmImmV (List.mem_of_find?_eq_some hr))] at hlen
    simp only [List.length_cons, List.length_nil]
    omega

end Sys2Proof

namespace Sys2Proof.Machine

/-! ### Fetching the bytes of an instruction -/

/-- The bytes stand at an offset of the code segment, where fetch can have them. -/
def CodeAt (s : State) (off : Nat) (bs : List Byte) : Prop :=
  off + bs.length ≤ s.segs.cs.limit.toNat + 1 ∧
    ∀ k b, bs[k]? = some b → s.segs.cs.base + BitVec.ofNat 32 (off + k) ∉ s.seq.stale ∧
      memByte s.mem (s.segs.cs.base + BitVec.ofNat 32 (off + k)).toNat = b

theorem codeIs_iff {s : State} {bs : List Byte} : Claims.CodeIs s bs ↔ CodeAt s s.eip.toNat bs := Iff.rfl

theorem CodeAt.cons {s : State} {off : Nat} {b : Byte} {bs : List Byte} (h : CodeAt s off (b :: bs)) :
    off ≤ s.segs.cs.limit.toNat ∧ s.segs.cs.base + BitVec.ofNat 32 off ∉ s.seq.stale ∧
      memByte s.mem (s.segs.cs.base + BitVec.ofNat 32 off).toNat = b ∧ CodeAt s (off + 1) bs := by
  obtain ⟨hlen, hbytes⟩ := h
  rw [List.length_cons] at hlen
  obtain ⟨hfresh, hb⟩ := hbytes 0 b rfl
  refine ⟨by omega, hfresh, hb, by omega, fun k c hk => ?_⟩
  rw [Nat.add_assoc, Nat.add_comm 1]
  exact hbytes (k + 1) c hk

/-- With paging off, fetch reads the bytes that stand there first (R107). -/
theorem State.fetchBytes_of_codeAt {s : State} (hpg : s.ctrl.cr0.pg = false) {bs : List Byte} {n off : Nat}
    (h : CodeAt s off bs) (hn : bs.length ≤ n) : ∃ rest, (s.fetchBytes n off).1 = bs ++ rest := by
  induction bs generalizing n off with
  | nil => exact ⟨_, rfl⟩
  | cons b bs ih =>
    obtain _ | n := n
    · cases hn
    · obtain ⟨hlimit, hfresh, hb, htail⟩ := h.cons
      obtain ⟨rest, hrest⟩ := ih htail (Nat.le_of_succ_le_succ hn)
      refine ⟨rest, ?_⟩
      rw [State.fetchBytes, if_neg (by omega), if_neg hfresh, State.physAddr_pagingOff hpg]
      change memByte s.mem _ :: (s.fetchBytes n (off + 1)).1 = b :: bs ++ rest
      rw [hb, hrest, List.cons_append]

/-- Settles O57: the fetch reads the bytes of the encoding first (`State.fetchBytes_of_codeAt`), all of them, since none is
longer than the longest row (`encode_length_le`), and decoding gives the instruction back (`decode_encode`). -/
theorem fetchDecodesTheEncodedInstruction : Obligations.FetchDecodesTheEncodedInstruction := by
  intro s i hpg hwf hcode
  have hne : i ≠ .xchgEaxRv .eax := bne_iff_ne.1 (Bool.and_eq_true_iff.1 hwf).2
  obtain ⟨rest, hrest⟩ := State.fetchBytes_of_codeAt hpg (codeIs_iff.1 hcode) (encode_length_le hne)
  simp [State.decodeNext, hrest, decode_encode hwf]

end Sys2Proof.Machine

/-! PROOFS. O56, O47, O55, O58: the decoder and the encoder, the prefixes, and the step that reads an instruction behind
its prefixes. -/

namespace Sys2Proof

/-- Settles O56: the operands are read back one by one, and the opcode bytes find the row of the table that they come from
(`decode_encode`). -/
theorem decodeOfEncodeIsIdentity : Obligations.DecodeOfEncodeIsIdentity :=
  fun _ _ _ rest hwf => decode_encode hwf rest

/-- Settles O58, by evaluating the decoder on each word. -/
theorem writtenOutWordsDecode : Obligations.WrittenOutWordsDecode := by
  refine ⟨?_, ?_, ?_, ?_, ?_, ?_, ?_, ?_, ?_, ?_⟩ <;> decide +kernel

end Sys2Proof

namespace Sys2Proof.Machine

/-! ### Prefixes -/

section Prefixes

variable {α : Type} [DecidableEq α] {old : Option α} {x y : α} {s : State}

theorem joinPrefix_of_free_or_same (h : old = none ∨ old = some x) : joinPrefix old x = some (some x) := by
  obtain rfl | rfl := h
  · rfl
  · exact if_pos rfl

theorem joinPrefix_of_other (h : old = some y) (hne : y ≠ x) : joinPrefix old x = none := by
  subst h
  exact if_neg hne.symm

theorem State.segPrefix_of_free_or_same {r : SReg} (h : s.seq.pfx.seg = none ∨ s.seq.pfx.seg = some r) :
    s.segPrefix r = .next (s.withPfx { s.seq.pfx with seg := some r }) := by
  rw [State.segPrefix, joinPrefix_of_free_or_same h]

theorem State.segPrefix_of_other {r q : SReg} (h : s.seq.pfx.seg = some q) (hne : q ≠ r) :
    s.segPrefix r = .refused .conflictingPrefix := by
  rw [State.segPrefix, joinPrefix_of_other h hne]

theorem State.groupPrefix_of_free_or_same {g : GroupPrefix} (h : s.seq.pfx.group = none ∨ s.seq.pfx.group = some g) :
    s.groupPrefix g = .next (s.withPfx { s.seq.pfx with group := some g }) := by
  rw [State.groupPrefix, joinPrefix_of_free_or_same h]

theorem State.groupPrefix_of_other {g q : GroupPrefix} (h : s.seq.pfx.group = some q) (hne : q ≠ g) :
    s.groupPrefix g = .refused .conflictingPrefix := by
  rw [State.groupPrefix, joinPrefix_of_other h hne]

theorem exec_segPrefixes : ∀ i ∈ Claims.segPrefixes, exec i.1 s = s.segPrefix i.2 := by
  simp only [Claims.segPrefixes, List.forall_mem_cons]
  exact ⟨rfl, rfl, rfl, rfl, rfl, rfl, List.forall_mem_nil _⟩

theorem exec_groupPrefixes : ∀ i ∈ Claims.groupPrefixes, exec i.1 s = s.groupPrefix i.2 := by
  simp only [Claims.groupPrefixes, List.forall_mem_cons]
  exact ⟨rfl, rfl, rfl, List.forall_mem_nil _⟩

theorem sizeOf32_not_ne (b : Bool) : sizeOf32 (!b) ≠ sizeOf32 b := by
  cases b <;> decide

/-- 66H selects the operand size that the instruction does not have without it (R142). -/
theorem State.opSize_withPfx_ne {p : Prefixes} (h : s.seq.pfx.opsize = false) (hp : p.opsize = true) :
    (s.withPfx p).opSize ≠ s.opSize := by
  change sizeOf32 (s.defaultD ^^ p.opsize) ≠ sizeOf32 (s.defaultD ^^ s.seq.pfx.opsize)
  rw [h, hp, Bool.xor_true, Bool.xor_false]
  exact sizeOf32_not_ne _

/-- 67H selects the address size that the instruction does not have without it (R142). -/
theorem State.addrSize_withPfx_ne {p : Prefixes} (h : s.seq.pfx.addrsize = false) (hp : p.addrsize = true) :
    (s.withPfx p).addrSize ≠ s.addrSize := by
  change sizeOf32 (s.defaultD ^^ p.addrsize) ≠ sizeOf32 (s.defaultD ^^ s.seq.pfx.addrsize)
  rw [h, hp, Bool.xor_true, Bool.xor_false]
  exact sizeOf32_not_ne _

end Prefixes

/-- Settles O47: segment overrides, and LOCK, REPNE and REP, join the prefixes by `joinPrefix`; 66H and 67H each turn one
size over (`State.opSize_withPfx_ne`, `State.addrSize_withPfx_ne`) and are not read for the other. -/
theorem prefixesJoinTheInstruction : Obligations.PrefixesJoinTheInstruction := by
  intro s
  refine ⟨fun i hi => ?_, fun i hi => ?_, ⟨_, rfl, rfl, fun h => ?_, rfl⟩, ⟨_, rfl, rfl, fun h => ?_, rfl⟩⟩
  · rw [exec_segPrefixes i hi]
    exact ⟨State.segPrefix_of_free_or_same, fun _ => State.segPrefix_of_other⟩
  · rw [exec_groupPrefixes i hi]
    exact ⟨State.groupPrefix_of_free_or_same, fun _ => State.groupPrefix_of_other⟩
  · exact State.opSize_withPfx_ne h rfl
  · exact State.addrSize_withPfx_ne h rfl

/-! ### One instruction -/

section OneInstr

variable {s t u : State} {i : Instr} {n len : Nat}

/-- The model has no MAX_INSN_LEN, so no instruction is too long (D15). -/
@[simp] theorem State.tooLong_eq_false (s : State) : s.tooLong = false := rfl

theorem State.runInstr_of_isPrefixRow (hi : isPrefixRow i = true) (hd : s.decodeNext = .ok (i, len))
    (ht : exec i (s.advance len) = .next t) : State.runInstr (n + 1) s = State.runInstr n t := by
  simp only [State.runInstr, hd, hi, ht, if_true]

theorem State.runInstr_of_not_isPrefixRow (hi : isPrefixRow i = false) (hd : s.decodeNext = .ok (i, len)) :
    State.runInstr (n + 1) s = exec i (s.advance len) := by
  simp [State.runInstr, hd, hi]

/-- What is read behind its prefixes is what runs; the induction is over the prefixes. -/
theorem State.runInstr_of_reads {k : Nat} (h : Claims.Reads k s i u) (hk : k < n) :
    State.runInstr n s = exec i u := by
  induction k generalizing s n with
  | zero =>
    obtain ⟨hi, len, hd, rfl⟩ := h
    obtain ⟨n, rfl⟩ := Nat.exists_eq_add_one.2 hk
    exact State.runInstr_of_not_isPrefixRow hi hd
  | succ k ih =>
    obtain ⟨p, len, v, hp, hd, hv, hreads⟩ := h
    obtain ⟨n, rfl⟩ := Nat.exists_eq_add_one.2 (Nat.zero_lt_of_lt hk)
    rw [State.runInstr_of_isPrefixRow hp hd hv]
    exact ih hreads (Nat.lt_of_succ_lt_succ hk)

/-- A switch of PE that no jump has followed is refused (R502). -/
theorem State.endInstr_of_peSwitch
    (h : s.seq.peSwitch = true ∧ t.seq.peSwitch = true ∧ t.seq.shutdown = false) :
    s.endInstr t = .refused .modeSwitchWithoutJump := by
  simp [State.endInstr, h]

/-- The single-step trap is delivered at the boundary (R477). -/
theorem State.endInstr_of_stepTrap
    (hpe : ¬ (s.seq.peSwitch = true ∧ t.seq.peSwitch = true ∧ t.seq.shutdown = false))
    (h : t.seq.stepTrap = true ∧ t.seq.inhibit ≠ .all ∧ t.seq.shutdown = false) :
    s.endInstr t = t.deliverAtBoundary stepTrapEvent := by
  rw [State.endInstr, if_neg (by simpa [and_assoc] using hpe), if_pos (by simpa [and_assoc] using h)]

theorem State.endInstr_of_not_stepTrap
    (hpe : ¬ (s.seq.peSwitch = true ∧ t.seq.peSwitch = true ∧ t.seq.shutdown = false))
    (h : ¬ (t.seq.stepTrap = true ∧ t.seq.inhibit ≠ .all ∧ t.seq.shutdown = false)) :
    s.endInstr t = .next { t with seq := { t.seq with stepTrap := false, pfx := Prefixes.empty } } := by
  rw [State.endInstr, if_neg (by simpa [and_assoc] using hpe), if_neg (by simpa [and_assoc] using h)]

end OneInstr

/-- Settles O55: without events a step is one instruction (`step_of_quiet`), which runs what is read behind the prefixes
(`State.runInstr_of_reads`); where that answers a state, `State.endInstr` ends it. -/
theorem stepRunsDecodedInstruction : Obligations.StepRunsDecodedInstruction := by
  rintro s u i k ⟨hreset, hshutdown, hnmi, hintr, hhalted⟩ hk hreads
  have hrun : State.runInstr prefixFuel s.beginInstr = exec i u := State.runInstr_of_reads hreads hk
  rw [step_of_quiet hreset hshutdown hnmi hintr hhalted, State.oneInstr, hrun]
  refine ⟨fun t ht => ?_, fun f hf => by rw [hf], fun x hx => by rw [hx]⟩
  rw [ht]
  exact ⟨State.endInstr_of_peSwitch, fun hpe => ⟨State.endInstr_of_stepTrap hpe, State.endInstr_of_not_stepTrap hpe⟩⟩

end Sys2Proof.Machine

/-! PROOFS. O2, O8, O9, O13, O41, O42: arithmetic and logic, bits, decimal adjustment, BOUND and the selector probes.
What they share comes first: the prefixes they take, and what holds after an update of flags and one register or one
store. -/

namespace Sys2Proof.Machine

/-! ### Running an instruction and the frame of its updates -/

section Frames

variable {s u : State} {w : Width} {rm : RM}

theorem GroupRule.allows_of_lockFits (h : Claims.LockFits s rm) :
    (GroupRule.lockMem rm).allows s.seq.pfx.group = true := by
  obtain hplain | ⟨hlock, ea, rfl⟩ := h
  · exact GroupRule.allows_plain _ hplain
  · rw [hlock]
    rfl

/-- A meaning whose body raises an exception delivers it from the state the instruction restarts from (R471). -/
theorem perform_plain_raise {rule : GroupRule} {body : State → Res State} {x : Exc} (h : s.plain)
    (hb : body s = raise x) : perform rule s body = (s.restart.loadCr2 x).deliver deliverFuel x.event := by
  rw [perform, if_pos (rule.allows_plain h), hb]
  rfl

/-- A state that is `s` but for its flags and the count of free values. -/
theorem FlagsOnly.of_eq (hvm : u.flags.vm = s.flags.vm) (h : u = { s with flags := u.flags, draws := u.draws }) :
    FlagsOnly s u :=
  ⟨_, _, hvm, h⟩

theorem FlagsOnly.gpr_eq (h : FlagsOnly s u) : u.gpr = s.gpr := by
  obtain ⟨f, d, -, rfl⟩ := h
  rfl

theorem FlagsOnly.setReg_kept (h : FlagsOnly s u) {r : Reg} {v : BitVec w.bits} : Kept s (u.setReg w r v) := h.kept

theorem FlagsOnly.setReg_sameMem (h : FlagsOnly s u) {r : Reg} {v : BitVec w.bits} : SameMem s (u.setReg w r v) :=
  h.sameMem

theorem FlagsOnly.setReg_gpr (h : FlagsOnly s u) {r : Reg} {v : BitVec w.bits} :
    (u.setReg w r v).gpr = s.gpr.write w r v := by
  rw [State.setReg_gpr, h.gpr_eq]

/-- A destination that passes its write check is stored into after its flags are set. -/
theorem FlagsOnly.writeRM_of_check (h : FlagsOnly s u) (hcheck : s.checkRM w rm = .ok ()) (v : BitVec w.bits) :
    ∃ t, u.writeRM w rm v = .ok t ∧ Stores s t w rm v ∧ Kept s t ∧ t.flags = u.flags := by
  obtain ⟨t, ht⟩ := State.writeRM_of_check hcheck h.view v
  obtain ⟨hstores, hkept, hflags, -⟩ := State.writeRM_ok ht
  exact ⟨t, ht, hstores.of_view h.view, h.kept.trans hkept, hflags⟩

end Frames

/-! ### Arithmetic and logic -/

section Arithmetic

variable {s : State} {op : AluOp} {w : Width} {rm : RM} {r : Reg} {i8 : BitVec 8} {iv : VImm}

theorem State.aluFlags_flagsOnly {n : Nat} (op : AluOp) (a b : BitVec n) : FlagsOnly s (s.aluFlags op a b) := by
  cases op <;> exact .of_eq rfl rfl

theorem State.aluFlags_opFlags {n : Nat} (op : AluOp) (a b : BitVec n) :
    Claims.OpFlags op s.flags (s.aluFlags op a b).flags a b := by
  cases op <;> rfl

theorem State.aluRM_of {a b : BitVec w.bits} (h : s.readDest w rm = .ok a) :
    ∃ t, s.aluRM op w rm b = .ok t ∧ Stores s t w rm (op.result a b s.flags.cf) ∧
      Claims.OpFlags op s.flags t.flags a b ∧ Kept s t := by
  obtain ⟨t, ht, hstores, hkept, hflags, -⟩ := State.updateRM_of h
    (fun a => (op.result a b s.flags.cf, s.aluFlags op a b)) (State.aluFlags_flagsOnly op a b)
  exact ⟨t, ht, hstores, hflags ▸ State.aluFlags_opFlags op a b, hkept⟩

theorem State.aluRegRM_of {b : BitVec w.bits} (h : s.readRM w rm = .ok b) :
    s.aluRegRM op w r rm = .ok (s.aluReg op w r b) := by
  simp [State.aluRegRM, h]

/-- All that an operation on a register does. -/
theorem State.aluReg_spec (b : BitVec w.bits) :
    (s.aluReg op w r b).gpr = s.gpr.write w r (op.result (s.reg w r) b s.flags.cf) ∧
      Claims.OpFlags op s.flags (s.aluReg op w r b).flags (s.reg w r) b ∧ Kept s (s.aluReg op w r b) ∧
      SameMem s (s.aluReg op w r b) :=
  have h := State.aluFlags_flagsOnly (s := s) op (s.reg w r) b
  ⟨h.setReg_gpr, State.aluFlags_opFlags op _ b, h.setReg_kept, h.setReg_sameMem⟩

/-- The meanings of the forms with an r/m destination are one operation. -/
theorem exec_rmForms (hop : op ≠ .cmp) : ∀ i ∈ Claims.rmForms op s rm r i8 iv,
    exec i.instr s = perform (.lockMem rm) s fun _ => s.aluRM op i.width rm i.src := by
  cases op with
  | cmp => exact absurd rfl hop
  | add | or | adc | sbb | and | sub | xor =>
    simp only [Claims.rmForms, List.forall_mem_cons]
    exact ⟨rfl, rfl, rfl, rfl, rfl, List.forall_mem_nil _⟩

/-- The meanings of the forms with a register destination and an r/m source are one operation. -/
theorem exec_regForms (hop : op ≠ .cmp) : ∀ i ∈ Claims.regForms op s r rm,
    exec i.1 s = perform .none s fun _ => s.aluRegRM op i.2 r rm := by
  cases op with
  | cmp => exact absurd rfl hop
  | add | or | adc | sbb | and | sub | xor =>
    simp only [Claims.regForms, List.forall_mem_cons]
    exact ⟨rfl, rfl, List.forall_mem_nil _⟩

/-- The meanings of the forms on the accumulator and an immediate are one operation. -/
theorem exec_accForms (hop : op ≠ .cmp) : ∀ i ∈ Claims.accForms op s i8 iv,
    exec i.instr s = perform .none s fun _ => .ok (s.aluReg op i.width .eax i.src) := by
  cases op with
  | cmp => exact absurd rfl hop
  | add | or | adc | sbb | and | sub | xor =>
    simp only [Claims.accForms, List.forall_mem_cons]
    exact ⟨rfl, rfl, List.forall_mem_nil _⟩

end Arithmetic

/-- Settles O2: the forms of each shape run one operation (`exec_rmForms`, `exec_regForms`, `exec_accForms`), which
stores its result after setting the flags (`State.aluRM_of`, `State.aluReg_spec`). -/
theorem arithmeticStoresResultAndFlags : Obligations.ArithmeticStoresResultAndFlags := by
  refine ⟨fun op s rm r i8 iv hop hlock i hi a ha => ?_, fun op s hop hs => ⟨fun r rm i hi b hb => ?_,
    fun i8 iv i hi => ?_⟩⟩
  · obtain ⟨t, ht, hspec⟩ := State.aluRM_of (op := op) (b := i.src) ha
    exact ⟨t, (exec_rmForms hop i hi).trans (perform_of (GroupRule.allows_of_lockFits hlock) ht), hspec⟩
  · exact ⟨_, (exec_regForms hop i hi).trans (perform_plain hs (State.aluRegRM_of hb)), State.aluReg_spec b⟩
  · exact ⟨_, (exec_accForms hop i hi).trans (perform_plain hs rfl), State.aluReg_spec i.src⟩

/-! ### Bit tests -/

section BitTests

variable {s u : State} {op : BitOp} {w : Width} {rm : RM} {r q : Reg} {i8 : BitVec 8} {g : SReg} {off : BitVec 32}
  {k : Nat}

/-- A unit of memory that passes its write check is stored into after the flags are set. -/
theorem FlagsOnly.memWrite_of_check (h : FlagsOnly s u) (hcheck : s.writeCheck g off w.bytes = .ok ())
    (v : BitVec w.bits) : ∃ t, u.memWrite g w off v = .ok t ∧ StoresAt s t g w off v ∧ t.gpr = s.gpr ∧
      t.flags = u.flags ∧ Kept s t := by
  obtain ⟨hacc, ps, hps⟩ := State.writeCheck_ok hcheck
  obtain ⟨hgpr, hsegs, hctrl, -, hvm, hmem⟩ := h.view
  have hacc' : u.accessOk g off w.bytes true = true := by rwa [State.accessOk_congr hsegs hctrl hvm]
  have hps' : u.physAddrs .write u.user w.bytes (u.linear g off) = .ok ps := by
    rwa [State.user_congr hsegs hctrl hvm, State.linear_congr hsegs, State.physAddrs_congr hctrl hmem]
  refine ⟨_, State.memWrite_of v hacc' hps', ⟨ps, hps, by rw [hmem], fun a ha => ?_⟩, by simp [hgpr], by simp,
    h.kept.trans ⟨by simp, by simp, by simp, by simp, by simp, by simp, State.noteStores_seq _ _ _⟩⟩
  rw [hmem]
  exact memByte_memSetBytes_other _ _ _ ha

theorem BitOp.apply_bitChanged {n : Nat} (op : BitOp) (v : BitVec n) (hk : k < n) :
    Claims.BitChanged op k v (op.apply v k) := by
  cases op with
  | test => exact ⟨rfl, fun _ _ => rfl⟩
  | set | complement =>
    rw [BitOp.apply, ← BitVec.twoPow_eq]
    exact ⟨by simp [hk], fun j hj => by simp [hj.symm]⟩
  | reset =>
    rw [BitOp.apply, ← BitVec.twoPow_eq]
    exact ⟨by simp [hk], fun j hj => by simpa [hj.symm] using BitVec.lt_of_getLsbD⟩

theorem State.bitFlags_flagsOnly (b : Bool) : FlagsOnly s (s.bitFlags b) := .of_eq rfl rfl

theorem State.bitFlags_bitFlags (b : Bool) : Claims.BitFlags s.flags (s.bitFlags b).flags b :=
  ⟨rfl, rfl, rfl, rfl, rfl, rfl, rfl, rfl⟩

/-- The distance to the unit that holds a signed bit offset: the floor of the offset by the unit's bits, in bytes
(R213). -/
theorem bitUnitOffset_eq (sz : Size) (v : BitVec sz.width.bits) :
    bitUnitOffset sz (v.setWidth 32) = BitVec.ofInt 32 (sz.width.bytes * (v.toInt / sz.width.bits)) := by
  cases sz with
  | s16 =>
    have hv : (v.setWidth 32).setWidth 16 = v := BitVec.setWidth_setWidth_of_le _ (by decide)
    rw [bitUnitOffset, hv, BitVec.shiftLeft_eq_mul_twoPow, BitVec.mul_comm, BitVec.ofInt_mul]
    congr 1
    rw [← BitVec.ofInt_toInt (x := BitVec.sshiftRight _ _), BitVec.toInt_sshiftRight, Int.shiftRight_eq_div_pow,
      BitVec.toInt_signExtend_of_le (by decide)]
  | s32 =>
    rw [bitUnitOffset, BitVec.setWidth_eq, BitVec.shiftLeft_eq_mul_twoPow, BitVec.mul_comm, BitVec.ofInt_mul]
    congr 1
    rw [← BitVec.ofInt_toInt (x := BitVec.sshiftRight _ _), BitVec.toInt_sshiftRight, Int.shiftRight_eq_div_pow]

theorem State.eReg_toNat (z : Size) : (s.eReg z r).toNat = (s.reg z.width r).toNat := by
  cases z <;> exact BitVec.toNat_setWidth_of_le (by decide)

theorem State.bitOffset_reg : s.bitOffset op (.reg q) r =
    .ok (s.bitReg op s.opSize.width q ((s.reg s.opSize.width r).toNat % s.opSize.width.bits)) := by
  rw [State.bitOffset, State.eReg_toNat]

theorem State.bitOffset_mem {ea : EA} : s.bitOffset op (.mem ea) r =
    s.bitMem op s.opSize.width (s.eaSeg ea) (addOffset s.addrSize (s.eaOff ea) (BitVec.ofInt 32
        (s.opSize.width.bytes * ((s.reg s.opSize.width r).toInt / s.opSize.width.bits))))
      ((s.reg s.opSize.width r).toNat % s.opSize.width.bits) := by
  rw [← bitUnitOffset_eq, State.bitOffset, State.eReg_toNat]
  rfl

theorem exec_bitImmForm (op : BitOp) :
    exec (Claims.bitImmForm op rm i8) s = perform (.lockMem rm) s fun _ => s.bitImm op rm i8 := by
  cases op <;> rfl

theorem exec_bitRegForm (op : BitOp) :
    exec (Claims.bitRegForm op rm r) s = perform (.lockMem rm) s fun _ => s.bitOffset op rm r := by
  cases op <;> rfl

/-- All that a bit test of a register does. -/
theorem State.bitReg_spec (hk : k < w.bits) :
    (s.bitReg op w q k).gpr = s.gpr.write w q (op.apply (s.reg w q) k) ∧
      Claims.BitChanged op k (s.reg w q) (op.apply (s.reg w q) k) ∧
      Claims.BitFlags s.flags (s.bitReg op w q k).flags ((s.reg w q).getLsbD k) ∧ Kept s (s.bitReg op w q k) ∧
      SameMem s (s.bitReg op w q k) :=
  have h := State.bitFlags_flagsOnly (s := s) ((s.reg w q).getLsbD k)
  ⟨h.setReg_gpr, op.apply_bitChanged _ hk, State.bitFlags_bitFlags _, h.setReg_kept, h.setReg_sameMem⟩

/-- BT of a unit of memory that can be read changes flags only. -/
theorem State.bitMem_test {a : BitVec w.bits} (h : s.memRead g w off = .ok a) :
    s.bitMem .test w g off k = .ok (s.bitFlags (a.getLsbD k)) := by
  simp [State.bitMem, h]

/-- BTS, BTR and BTC of a unit of memory that can be read and written store it with the bit changed. -/
theorem State.bitMem_store {a : BitVec w.bits} (hop : op ≠ .test) (hcheck : s.writeCheck g off w.bytes = .ok ())
    (h : s.memRead g w off = .ok a) : ∃ t, s.bitMem op w g off k = .ok t ∧ StoresAt s t g w off (op.apply a k) ∧
      t.gpr = s.gpr ∧ t.flags = (s.bitFlags (a.getLsbD k)).flags ∧ Kept s t := by
  have hstore : s.bitMem op w g off k = (s.bitFlags (a.getLsbD k)).memWrite g w off (op.apply a k) := by
    simp [State.bitMem, hop, hcheck, h]
  rw [hstore]
  exact (State.bitFlags_flagsOnly _).memWrite_of_check hcheck _

/-- All that an instruction does that is a bit test of a unit of memory. -/
theorem bitTest_mem_spec {i : Instr} {ea : EA} (hlock : Claims.LockFits s (.mem ea))
    (hi : exec i s = perform (.lockMem (.mem ea)) s fun _ => s.bitMem op w g off k) (hk : k < w.bits)
    {a : BitVec w.bits} (ha : s.memRead g w off = .ok a) :
    (op = .test → ∃ t, exec i s = .next t ∧ Claims.BitFlags s.flags t.flags (a.getLsbD k) ∧ t.gpr = s.gpr ∧
      Kept s t ∧ SameMem s t) ∧
    (op ≠ .test → s.writeCheck g off w.bytes = .ok () → ∃ t v, exec i s = .next t ∧ StoresAt s t g w off v ∧
      Claims.BitChanged op k a v ∧ Claims.BitFlags s.flags t.flags (a.getLsbD k) ∧ t.gpr = s.gpr ∧ Kept s t) := by
  have hrule := GroupRule.allows_of_lockFits hlock
  have hflags := State.bitFlags_bitFlags (s := s) (a.getLsbD k)
  constructor
  · rintro rfl
    have h := State.bitFlags_flagsOnly (s := s) (a.getLsbD k)
    exact ⟨_, hi.trans (perform_of hrule (State.bitMem_test ha)), hflags, h.gpr_eq, h.kept, h.sameMem⟩
  · intro hop hcheck
    obtain ⟨t, ht, hstores, hgpr, htflags, hkept⟩ := State.bitMem_store (k := k) hop hcheck ha
    exact ⟨t, _, hi.trans (perform_of hrule ht), hstores, op.apply_bitChanged a hk, htflags ▸ hflags, hgpr, hkept⟩

end BitTests

/-- Settles O8: both forms of a bit test run one operation on a register (`State.bitReg_spec`) or on the unit of memory
that holds the bit (`bitTest_mem_spec`, `bitUnitOffset_eq`). -/
theorem bitTestsSelectAndChangeOneBit : Obligations.BitTestsSelectAndChangeOneBit := by
  intro op s
  have hmod (n : Nat) : n % s.opSize.width.bits < s.opSize.width.bits := Nat.mod_lt _ s.opSize.width.bits_pos
  refine ⟨fun q i8 r hs => ?_, fun ea i8 r hlock => ?_⟩
  · simp only [List.forall_mem_cons]
    exact ⟨⟨_, _, (exec_bitImmForm op).trans (perform_plain hs rfl), State.bitReg_spec (hmod _)⟩,
      ⟨_, _, (exec_bitRegForm op).trans (perform_plain hs State.bitOffset_reg), State.bitReg_spec (hmod _)⟩,
      List.forall_mem_nil _⟩
  · simp only [List.forall_mem_cons]
    refine ⟨fun a => bitTest_mem_spec hlock (exec_bitImmForm op) (hmod _),
      fun a => bitTest_mem_spec hlock ?_ (hmod _), List.forall_mem_nil _⟩
    rw [exec_bitRegForm, State.bitOffset_mem]

/-! ### Bit scans -/

section BitScans

variable {s : State} {n : Nat} {v : BitVec n} {r : Reg} {rm : RM}

theorem exists_getLsbD_of_ne_zero (h : v ≠ 0) : ∃ j < n, v.getLsbD j = true := by
  by_contra hnone
  push Not at hnone
  refine h (BitVec.eq_of_getLsbD_eq fun j hj => ?_)
  simpa using hnone j hj

/-- `scanUp` stops at the first set bit from `i` on, where there is one within its fuel. -/
theorem scanUp_spec {fuel i : Nat} (h : ∃ j, i ≤ j ∧ j < i + fuel ∧ v.getLsbD j = true) :
    v.getLsbD (scanUp v fuel i) = true ∧ ∀ j, i ≤ j → j < scanUp v fuel i → v.getLsbD j = false := by
  obtain ⟨j, hij, hjf, hj⟩ := h
  induction fuel generalizing i with
  | zero => omega
  | succ fuel ih =>
    unfold scanUp
    split
    · next hi => exact ⟨hi, fun k hik hki => by omega⟩
    · next hi =>
      have hne : j ≠ i := by
        rintro rfl
        exact hi hj
      obtain ⟨hset, hbelow⟩ := ih (i := i + 1) (by omega) (by omega)
      refine ⟨hset, fun k hik hk => ?_⟩
      obtain rfl | hlt := Nat.eq_or_lt_of_le hik
      · simpa using hi
      · exact hbelow k hlt hk

/-- `scanDown` stops at the first set bit from `i` down, where there is one. -/
theorem scanDown_spec {i : Nat} (h : ∃ j ≤ i, v.getLsbD j = true) :
    v.getLsbD (scanDown v i) = true ∧ ∀ j, scanDown v i < j → j ≤ i → v.getLsbD j = false := by
  obtain ⟨j, hji, hj⟩ := h
  induction i with
  | zero =>
    obtain rfl : j = 0 := by omega
    exact ⟨hj, fun k hk hk0 => absurd (lt_of_lt_of_le hk hk0) (lt_irrefl _)⟩
  | succ i ih =>
    unfold scanDown
    split
    · next hi => exact ⟨hi, fun k hik hki => by omega⟩
    · next hi =>
      have hne : j ≠ i + 1 := by
        rintro rfl
        exact hi hj
      obtain ⟨hset, habove⟩ := ih (by omega)
      refine ⟨hset, fun k hk hki => ?_⟩
      obtain rfl | hlt := Nat.eq_or_lt_of_le hki
      · simpa using hi
      · exact habove k hk (Nat.le_of_lt_succ hlt)

theorem scanUp_lowest (h : v ≠ 0) : v.getLsbD (scanUp v n 0) = true ∧ ∀ j < scanUp v n 0, v.getLsbD j = false := by
  obtain ⟨j, hjn, hj⟩ := exists_getLsbD_of_ne_zero h
  obtain ⟨hset, hbelow⟩ := scanUp_spec (fuel := n) (i := 0) ⟨j, Nat.zero_le j, by omega, hj⟩
  exact ⟨hset, fun k hk => hbelow k (Nat.zero_le k) hk⟩

theorem scanDown_highest (h : v ≠ 0) :
    v.getLsbD (scanDown v (n - 1)) = true ∧ ∀ j > scanDown v (n - 1), v.getLsbD j = false := by
  obtain ⟨j, hjn, hj⟩ := exists_getLsbD_of_ne_zero h
  obtain ⟨hset, habove⟩ := scanDown_spec (i := n - 1) ⟨j, Nat.le_sub_one_of_lt hjn, hj⟩
  refine ⟨hset, fun k hk => ?_⟩
  by_cases hkn : k ≤ n - 1
  · exact habove k hk hkn
  · exact BitVec.getLsbD_of_ge v k (by omega)

theorem State.scanRM_of_zero {index : BitVec s.opSize.width.bits → Nat} (h : s.readRM s.opSize.width rm = .ok 0) :
    s.scanRM r rm index =
      .ok ((s.draw.2.scanFlags true).setReg s.opSize.width r (s.draw.1.setWidth _)) := by
  simp [State.scanRM, h]

theorem State.scanRM_of_ne_zero {index : BitVec s.opSize.width.bits → Nat} {v : BitVec s.opSize.width.bits}
    (h : s.readRM s.opSize.width rm = .ok v) (hv : v ≠ 0) :
    s.scanRM r rm index = .ok ((s.scanFlags false).setReg s.opSize.width r (BitVec.ofNat _ (index v))) := by
  rw [State.scanRM, h]
  exact if_neg hv

/-- All that a bit scan does, from a state that differs from `s` at most in the count of free values. -/
theorem State.scanFlags_setReg_spec {u : State} {w : Width} (hu : FlagsOnly s u) (hflags : u.flags = s.flags)
    (zero : Bool) (x : BitVec w.bits) :
    ((u.scanFlags zero).setReg w r x).flags.zf = zero ∧
      s.flags.sameControl ((u.scanFlags zero).setReg w r x).flags ∧
      ((u.scanFlags zero).setReg w r x).gpr = s.gpr.write w r x ∧ Kept s ((u.scanFlags zero).setReg w r x) ∧
      SameMem s ((u.scanFlags zero).setReg w r x) := by
  have hcontrol : s.flags.sameControl (u.scanFlags zero).flags := by
    rw [← hflags]
    exact ⟨rfl, rfl, rfl, rfl, rfl, rfl, rfl⟩
  exact ⟨rfl, hcontrol, congrArg (·.write w r x) hu.gpr_eq, hu.kept, hu.sameMem⟩

end BitScans

/-- Settles O9: a scan of a zero source takes a free value for its destination (`State.scanRM_of_zero`), and another
gets the index at which its loop stops (`scanUp_lowest`, `scanDown_highest`). -/
theorem bitScansFindLowestAndHighest : Obligations.BitScansFindLowestAndHighest := by
  intro s r rm hs v hv
  refine ⟨?_, fun hne => ⟨?_, ?_⟩⟩
  · rintro rfl
    have hspec := State.scanFlags_setReg_spec (r := r) (s := s) (u := s.draw.2) (.of_eq rfl rfl) rfl true
      (s.draw.1.setWidth s.opSize.width.bits)
    simp only [List.forall_mem_cons]
    exact ⟨⟨_, _, (exec_bsf s r rm).trans (perform_plain hs (State.scanRM_of_zero hv)), hspec⟩,
      ⟨_, _, (exec_bsr s r rm).trans (perform_plain hs (State.scanRM_of_zero hv)), hspec⟩, List.forall_mem_nil _⟩
  · obtain ⟨hset, hbelow⟩ := scanUp_lowest hne
    exact ⟨_, _, (exec_bsf s r rm).trans (perform_plain hs (State.scanRM_of_ne_zero hv hne)), hset, hbelow,
      State.scanFlags_setReg_spec (.of_eq rfl rfl) rfl false _⟩
  · obtain ⟨hset, habove⟩ := scanDown_highest hne
    exact ⟨_, _, (exec_bsr s r rm).trans (perform_plain hs (State.scanRM_of_ne_zero hv hne)), hset, habove,
      State.scanFlags_setReg_spec (.of_eq rfl rfl) rfl false _⟩

/-! ### Decimal adjustments -/

section DecimalAdjustments

variable {s u : State} {i : Instr} {a x y : BitVec 8} {high : Bool} {p : Flags → Prop}

theorem State.lowAdjust_iff :
    s.lowAdjust = true ↔ 9 < (s.reg .b8 .eax &&& 0x0F).toNat ∨ s.flags.af = true := by
  rw [State.lowAdjust, Bool.or_eq_true, decide_eq_true_iff]
  rfl

theorem State.lowAdjust_ite (x y : BitVec 8) :
    (if s.flags.af = true ∨ 9 < (s.reg .b8 .eax &&& 0x0F).toNat then x else y) = if s.lowAdjust then x else y :=
  if_congr (Or.comm.trans State.lowAdjust_iff.symm) rfl rfl

/-- Replacing the high byte by the one that was there before the low byte was replaced changes nothing. -/
theorem setByte_high_of_low (old : BitVec 32) (x : BitVec 8) :
    setByte (setByte old false x) true (old.extractLsb' 8 8) = setByte old false x := by
  ext j hj
  grind [setByte]

/-- An adjustment that leaves AH writes it its own value. -/
theorem State.setReg_al_eq_setAlAh (u : State) (x : BitVec 8) : u.setReg .b8 .eax x = u.setAlAh x u.ah :=
  congrArg (fun v => { u with gpr := { u.gpr with eax := v } }) (setByte_high_of_low u.gpr.eax x).symm

/-- All that an adjustment does: it sets AL and AH, and status flags. -/
theorem setAlAh_spec (hi : exec i s = .next (u.setAlAh x y)) (hu : u = { s with flags := u.flags, draws := u.draws })
    (hcontrol : s.flags.sameControl u.flags) (hp : p u.flags) :
    ∃ t, exec i s = .next t ∧ t.gpr = (s.gpr.write .b8 .eax x).write .b8 .esp y ∧ p t.flags ∧
      s.flags.sameControl t.flags ∧ Kept s t ∧ SameMem s t := by
  have ⟨_, _, _, _, _, _, hvm⟩ := hcontrol
  have h : FlagsOnly s u := .of_eq hvm hu
  exact ⟨_, hi, congrArg (fun g => (g.write .b8 .eax x).write .b8 .esp y) h.gpr_eq, hp, hcontrol, h.kept, h.sameMem⟩

/-- AAA and AAS set AF and CF together (R200, R203). -/
theorem asciiFlags_spec {b : Bool} (hi : exec i s = .next ((s.asciiFlags b).setAlAh x y)) :
    ∃ t, exec i s = .next t ∧ t.gpr = (s.gpr.write .b8 .eax x).write .b8 .esp y ∧ (t.flags.af = b ∧ t.flags.cf = b) ∧
      s.flags.sameControl t.flags ∧ Kept s t ∧ SameMem s t :=
  setAlAh_spec (p := fun g => g.af = b ∧ g.cf = b) hi rfl ⟨rfl, rfl, rfl, rfl, rfl, rfl, rfl⟩ ⟨rfl, rfl⟩

/-- AAD and AAM set SF, ZF and PF from AL (R201, R202). -/
theorem aadFlags_spec (hi : exec i s = .next ((s.aadFlags x).setAlAh x y)) :
    ∃ t, exec i s = .next t ∧ t.gpr = (s.gpr.write .b8 .eax x).write .b8 .esp y ∧ Claims.ResultFlags t.flags x ∧
      s.flags.sameControl t.flags ∧ Kept s t ∧ SameMem s t :=
  setAlAh_spec (p := fun g => Claims.ResultFlags g x) hi rfl ⟨rfl, rfl, rfl, rfl, rfl, rfl, rfl⟩ ⟨rfl, rfl, rfl⟩

/-- DAA and DAS leave AH, and set AF for the low digit, CF for the high one and SF, ZF and PF from AL (R249, R250). -/
theorem dasFlags_spec (hi : exec i s = .next ((s.dasFlags x s.lowAdjust high).setAlAh x s.ah)) :
    ∃ t, exec i s = .next t ∧ t.gpr = (s.gpr.write .b8 .eax x).write .b8 .esp s.ah ∧
      ((t.flags.af = true ↔ 9 < (s.reg .b8 .eax &&& 0x0F).toNat ∨ s.flags.af = true) ∧ t.flags.cf = high ∧
        Claims.ResultFlags t.flags x) ∧ s.flags.sameControl t.flags ∧ Kept s t ∧ SameMem s t :=
  setAlAh_spec (p := fun g => (g.af = true ↔ _) ∧ g.cf = high ∧ Claims.ResultFlags g x) hi rfl
    ⟨rfl, rfl, rfl, rfl, rfl, rfl, rfl⟩ ⟨State.lowAdjust_iff, rfl, rfl, rfl, rfl⟩

theorem State.aaa_of_lowAdjust (h : s.lowAdjust = true) :
    s.aaa = (s.asciiFlags true).setAlAh ((s.al + 6) &&& 0x0F) (s.ah + 1) := if_pos h

theorem State.aaa_of_not_lowAdjust (h : ¬ s.lowAdjust = true) :
    s.aaa = (s.asciiFlags false).setAlAh (s.al &&& 0x0F) s.ah := if_neg h

theorem State.aas_of_lowAdjust (h : s.lowAdjust = true) :
    s.aas = (s.asciiFlags true).setAlAh ((s.al - 6) &&& 0x0F) (s.ah - 1) := if_pos h

theorem State.aas_of_not_lowAdjust (h : ¬ s.lowAdjust = true) :
    s.aas = (s.asciiFlags false).setAlAh (s.al &&& 0x0F) s.ah := if_neg h

theorem State.aad_ten :
    s.aad 0x0A = .ok ((s.aadFlags (s.ah * 10 + s.al)).setAlAh (s.ah * 10 + s.al) 0) := if_pos rfl

theorem State.aam_ten : s.aam 0x0A = .ok ((s.aadFlags (BitVec.ofNat 8 (s.al.toNat % 10))).setAlAh
    (BitVec.ofNat 8 (s.al.toNat % 10)) (BitVec.ofNat 8 (s.al.toNat / 10))) := by
  have hrem : s.al % 10 = BitVec.ofNat 8 (s.al.toNat % 10) := by
    rw [BitVec.toNat_eq]
    simp
    omega
  have hquot : s.al / 10 = BitVec.ofNat 8 (s.al.toNat / 10) := by
    rw [BitVec.toNat_eq]
    simp
    omega
  rw [State.aam, if_pos rfl, hrem, hquot]

/-- DAA once it is known what its first step leaves and whether the high digit is adjusted. -/
theorem State.daa_eq (ha : a = if s.lowAdjust then s.al + 6 else s.al)
    (hhigh : (decide (0x9F < a.toNat) || s.flags.cf) = high) :
    s.daa = (s.dasFlags (if high then a + 0x60 else a) s.lowAdjust high).setAlAh
      (if high then a + 0x60 else a) s.ah := by
  subst ha hhigh
  exact State.setReg_al_eq_setAlAh _ _

/-- DAS once it is known what its first step leaves and whether the high digit is adjusted. -/
theorem State.das_eq (ha : a = if s.lowAdjust then s.al - 6 else s.al)
    (hhigh : (decide (0x9F < a.toNat) || s.flags.cf) = high) :
    s.das = (s.dasFlags (if high then a - 0x60 else a) s.lowAdjust high).setAlAh
      (if high then a - 0x60 else a) s.ah := by
  subst ha hhigh
  exact State.setReg_al_eq_setAlAh _ _

theorem exec_aaa_of_plain (hs : s.plain) : exec .aaa s = .next s.aaa :=
  perform_plain (body := fun s => .ok s.aaa) hs rfl

theorem exec_aas_of_plain (hs : s.plain) : exec .aas s = .next s.aas :=
  perform_plain (body := fun s => .ok s.aas) hs rfl

theorem exec_daa_of_plain (hs : s.plain) : exec .daa s = .next s.daa :=
  perform_plain (body := fun s => .ok s.daa) hs rfl

theorem exec_das_of_plain (hs : s.plain) : exec .das s = .next s.das :=
  perform_plain (body := fun s => .ok s.das) hs rfl

end DecimalAdjustments

/-- Settles O13: each adjustment sets AL and AH after its flags (`asciiFlags_spec`, `aadFlags_spec`, `dasFlags_spec`),
and DAA and DAS adjust the high digit of what their first step leaves (`State.daa_eq`, `State.das_eq`). -/
theorem decimalAdjustmentsFollowTheirRules : Obligations.DecimalAdjustmentsFollowTheirRules := by
  intro s hs al ah low plus6 minus6 done
  have hplus : plus6 = if s.lowAdjust then s.al + 6 else s.al := State.lowAdjust_ite _ _
  have hminus : minus6 = if s.lowAdjust then s.al - 6 else s.al := State.lowAdjust_ite _ _
  have hdaa {high : Bool} (h : (decide (0x9F < plus6.toNat) || s.flags.cf) = high) :=
    dasFlags_spec ((exec_daa_of_plain hs).trans (congrArg _ (State.daa_eq hplus h)))
  have hdas {high : Bool} (h : (decide (0x9F < minus6.toNat) || s.flags.cf) = high) :=
    dasFlags_spec ((exec_das_of_plain hs).trans (congrArg _ (State.das_eq hminus h)))
  refine ⟨fun h => ?_, fun h => ?_, ?_, ?_, fun h => ?_, fun h => ?_, fun h => ?_, fun h => ?_⟩
  · have hlow := State.lowAdjust_iff.2 h
    exact ⟨asciiFlags_spec ((exec_aaa_of_plain hs).trans (congrArg _ (State.aaa_of_lowAdjust hlow))),
      asciiFlags_spec ((exec_aas_of_plain hs).trans (congrArg _ (State.aas_of_lowAdjust hlow)))⟩
  · have hlow := mt State.lowAdjust_iff.1 h
    exact ⟨asciiFlags_spec ((exec_aaa_of_plain hs).trans (congrArg _ (State.aaa_of_not_lowAdjust hlow))),
      asciiFlags_spec ((exec_aas_of_plain hs).trans (congrArg _ (State.aas_of_not_lowAdjust hlow)))⟩
  · exact aadFlags_spec ((exec_aad s 0x0A).trans (perform_plain hs State.aad_ten))
  · exact aadFlags_spec ((exec_aam s 0x0A).trans (perform_plain hs State.aam_ten))
  · exact hdaa (high := true) (by simpa using h)
  · exact hdaa (high := false) (by simpa using h)
  · exact hdas (high := true) (by simpa using h)
  · exact hdas (high := false) (by simpa using h)

/-! ### BOUND -/

section Bound

variable {s : State} {w : Width} {r : Reg} {ea : EA} {bs : List Byte}

/-- BOUND on a readable pair of bounds is a signed comparison with both. -/
theorem State.boundTest_mem (h : s.memBytesAt (s.eaSeg ea) (s.eaOff ea) (2 * w.bytes) = .ok bs) :
    s.boundTest w r (.mem ea) =
      if (BitVec.ofNat w.bits (leNat (bs.take w.bytes))).toInt ≤ (s.reg w r).toInt ∧
          (s.reg w r).toInt ≤ (BitVec.ofNat w.bits (leNat (bs.drop w.bytes))).toInt then .ok s
      else raise (.plain 5) := by
  simp only [State.boundTest, needMem, State.readPair, h, BitVec.slt_iff_toInt_lt, Bool.or_eq_true, ← Int.not_le,
    ← not_and_or, ite_not]
  rfl

end Bound

/-- Settles O41: the body answers the state itself or raises Interrupt 5 (`State.boundTest_mem`), or #UD for a
register. -/
theorem boundTestsItsRegister : Obligations.BoundTestsItsRegister := by
  intro s r hs
  refine ⟨fun ea bs hbs => ⟨fun hin => ?_, fun hout => ?_⟩, fun q => ?_⟩
  · exact (exec_bound s r _).trans (perform_plain hs ((State.boundTest_mem hbs).trans (if_pos hin)))
  · exact (exec_bound s r _).trans (perform_plain_raise hs ((State.boundTest_mem hbs).trans (if_neg hout)))
  · exact (exec_bound s r _).trans
      (perform_plain_raise (body := fun s => s.boundTest s.opSize.width r (.reg q)) hs rfl)

/-! ### Selector probes -/

section SelectorProbes

variable {s : State} {sel : BitVec 16} {d : Desc} {rm : RM} {r : Reg}

theorem State.needProtected_of (hp : s.protectedMode = true) : s.needProtected = .ok () := need_ok.2 hp

theorem State.visible_iff : s.visible sel d = true ↔
    (d.isCode = true ∧ d.ce = true) ∨ (s.cpl ≤ d.dpl ∧ rpl sel ≤ d.dpl) := by
  simp [State.visible, Desc.conforming]

theorem State.visibleDesc_of_sees (h : Claims.Sees s sel d) : s.visibleDesc sel = .ok (some d) := by
  obtain ⟨hsel, hd, hvisible⟩ := h
  rw [State.visibleDesc, if_neg (mt isNull_iff.1 hsel), hd]
  exact congrArg Except.ok (if_pos (State.visible_iff.2 hvisible))

theorem State.visibleDesc_of_seesNothing (h : Claims.SeesNothing s sel) : s.visibleDesc sel = .ok none := by
  unfold State.visibleDesc
  split
  · rfl
  · next hnull =>
    obtain h0 | hd | ⟨d, hd, hhidden⟩ := h
    · exact absurd (isNull_iff.2 h0) hnull
    · rw [hd]
    · rw [hd]
      exact congrArg Except.ok (if_neg (mt State.visible_iff.1 hhidden))

theorem State.probe_of (hp : s.protectedMode = true) (hsel : s.readRM .w16 rm = .ok sel) :
    s.probe rm = s.visibleDesc sel := by
  simp [State.probe, State.needProtected_of hp, State.selectorAt, hsel]

theorem Desc.larType_iff : d.larType = true ↔ Claims.LarTakes d := by
  have hsys (x : BitVec 4) :
      ([1, 2, 3, 4, 5, 6, 7, 9, 11, 12, 14, 15] : List (BitVec 4)).contains x = true ↔
        x ∉ [(0 : BitVec 4), 8, 10, 13] := by
    revert x
    decide
  rw [Desc.larType, Desc.isSys, Claims.LarTakes, ← hsys]
  cases d.isSeg <;> simp

theorem Desc.lslType_iff : d.lslType = true ↔ Claims.LslTakes d := by
  rw [Desc.lslType, Desc.isSys, Claims.LslTakes]
  cases d.isSeg <;> simp

/-- The access rights are those of the descriptor, in all bits but the four free ones (R331). -/
theorem Desc.rights_and (d : Desc) (free : BitVec 32) : d.rights free &&& 0xFFF0FFFF = d.hi &&& 0x00F0FF00 := by
  have hfree : (0x000F0000 : BitVec 32) &&& 0xFFF0FFFF = 0 := by decide
  have hkept : (0x00F0FF00 : BitVec 32) &&& 0xFFF0FFFF = 0x00F0FF00 := by decide
  rw [Desc.rights, BitVec.and_or_distrib_right, BitVec.and_assoc, BitVec.and_assoc, hfree, hkept]
  simp

/-- Bits put above others weigh two to the number of those. -/
theorem toNat_append_eq_add {m n : Nat} (x : BitVec m) (y : BitVec n) :
    (x ++ y).toNat = x.toNat * 2 ^ n + y.toNat := by
  rw [BitVec.toNat_append, ← Nat.shiftLeft_add_eq_or_of_lt y.isLt, Nat.shiftLeft_eq]

theorem Desc.limit_toNat (d : Desc) : d.limit.toNat = Claims.byteLimit d := by
  have hraw : (d.hi.extractLsb' 16 4 ++ d.lo.extractLsb' 0 16).toNat =
      (d.hi.toNat / 2 ^ 16 % 16) * 2 ^ 16 + d.lo.toNat % 2 ^ 16 := by
    rw [toNat_append_eq_add]
    simp [BitVec.extractLsb'_toNat, Nat.shiftRight_eq_div_pow]
  unfold Desc.limit Claims.byteLimit
  split
  · exact (toNat_append_eq_add _ 0xFFF#12).trans (by rw [hraw]; rfl)
  · exact (toNat_append_eq_add (0#12 ++ d.hi.extractLsb' 16 4) _).trans (by
      rw [← hraw, toNat_append_eq_add, toNat_append_eq_add]
      simp)

theorem State.loadRights_of_none (h : s.probe rm = .ok none) : s.loadRights r rm = .ok (s.withZf false) := by
  simp [State.loadRights, h]

theorem State.loadRights_of_some (h : s.probe rm = .ok (some d)) : s.loadRights r rm =
    if d.larType then .ok ((s.draw.2.withZf true).setEReg s.opSize r (d.rights s.draw.1))
    else .ok (s.withZf false) := by
  simp [State.loadRights, h]

theorem State.loadLimit_of_none (h : s.probe rm = .ok none) : s.loadLimit r rm = .ok (s.withZf false) := by
  simp [State.loadLimit, h]

theorem State.loadLimit_of_some (h : s.probe rm = .ok (some d)) : s.loadLimit r rm =
    if d.lslType then .ok ((s.withZf true).setEReg s.opSize r d.limit) else .ok (s.withZf false) := by
  simp [State.loadLimit, h]

theorem State.verify_of_none {ok : Desc → Bool} (h : s.probe rm = .ok none) :
    s.verify rm ok = .ok (s.withZf false) := by
  simp [State.verify, h]

theorem State.verify_of_some {ok : Desc → Bool} (h : s.probe rm = .ok (some d)) :
    s.verify rm ok = .ok (s.withZf (ok d)) := by
  simp [State.verify, h]

/-- ARPL on a destination that can be read and written raises its RPL, or clears ZF (R207). -/
theorem State.adjustRpl_of {a src : BitVec 16} (hp : s.protectedMode = true) (ha : s.readDest .w16 rm = .ok a) :
    s.adjustRpl rm src =
      if rpl a < rpl src then (s.withZf true).writeRM .w16 rm (withRpl a (rpl src)) else .ok (s.withZf false) := by
  simp [State.adjustRpl, State.needProtected_of hp, ha]

theorem State.withZf_flagsOnly (z : Bool) : FlagsOnly s (s.withZf z) := .of_eq rfl rfl

end SelectorProbes

/-- Settles O42: the four probes look at one visible descriptor (`State.visibleDesc_of_sees`,
`State.visibleDesc_of_seesNothing`) and each takes the types of its rule; ARPL stores after its write check. -/
theorem selectorProbesReportInZf : Obligations.SelectorProbesReportInZf := by
  intro s rm r hs hp
  refine ⟨fun sel hsel => ⟨fun hnone => ?_, fun d hsees => ?_⟩, fun a ha => ⟨fun hlt => ?_, fun hge => ?_⟩⟩
  · have hprobe := (State.probe_of hp hsel).trans (State.visibleDesc_of_seesNothing hnone)
    simp only [List.forall_mem_cons]
    exact ⟨(exec_lar s r rm).trans (perform_plain hs (State.loadRights_of_none hprobe)),
      (exec_lsl s r rm).trans (perform_plain hs (State.loadLimit_of_none hprobe)),
      (exec_verr s rm).trans (perform_plain hs (State.verify_of_none hprobe)),
      (exec_verw s rm).trans (perform_plain hs (State.verify_of_none hprobe)), List.forall_mem_nil _⟩
  · have hprobe := (State.probe_of hp hsel).trans (State.visibleDesc_of_sees hsees)
    have hlar := State.loadRights_of_some (r := r) hprobe
    have hlsl := State.loadLimit_of_some (r := r) hprobe
    refine ⟨fun h => ?_, fun h => ?_, fun h => ?_, fun h => ?_, ?_, ?_⟩
    · have hu : FlagsOnly s (s.draw.2.withZf true) := .of_eq rfl rfl
      exact ⟨_, _, (exec_lar s r rm).trans (perform_plain hs (hlar.trans (if_pos (Desc.larType_iff.2 h)))), rfl, rfl,
        d.rights_and _, hu.setReg_kept, hu.setReg_sameMem⟩
    · exact (exec_lar s r rm).trans (perform_plain hs (hlar.trans (if_neg (mt Desc.larType_iff.1 h))))
    · have hu := State.withZf_flagsOnly (s := s) true
      exact ⟨_, _, (exec_lsl s r rm).trans (perform_plain hs (hlsl.trans (if_pos (Desc.lslType_iff.2 h)))), rfl, rfl,
        d.limit_toNat, hu.setReg_kept, hu.setReg_sameMem⟩
    · exact (exec_lsl s r rm).trans (perform_plain hs (hlsl.trans (if_neg (mt Desc.lslType_iff.1 h))))
    · exact (exec_verr s rm).trans (perform_plain hs (State.verify_of_some hprobe))
    · exact (exec_verw s rm).trans (perform_plain hs (State.verify_of_some hprobe))
  · obtain ⟨hcheck, -⟩ := State.readDest_ok ha
    obtain ⟨t, ht, hstores, hkept, hflags⟩ := (State.withZf_flagsOnly true).writeRM_of_check hcheck
      (withRpl a (rpl (s.reg .w16 r)))
    exact ⟨t, (exec_arpl s rm r).trans (perform_plain hs ((State.adjustRpl_of hp ha).trans ((if_pos hlt).trans ht))),
      hstores, hflags, hkept⟩
  · exact (exec_arpl s rm r).trans (perform_plain hs ((State.adjustRpl_of hp ha).trans (if_neg hge)))

end Sys2Proof.Machine

/-! PROOFS. O3, O12, O24, O25: comparisons, divisions and the instructions that write flags. What they share comes
first: reading back a general register, and which flags free values leave. -/

namespace Sys2Proof.Machine

/-! ### General registers after a write -/

section Registers

theorem extractLsb'_low_setLow16 (old : BitVec 32) (v : BitVec 16) : (setLow16 old v).extractLsb' 0 16 = v :=
  BitVec.extractLsb'_append_eq_right

theorem extractLsb'_upper_setLow16 (old : BitVec 32) (v : BitVec 16) :
    (setLow16 old v).extractLsb' 16 16 = old.extractLsb' 16 16 :=
  BitVec.extractLsb'_append_eq_left

theorem extractLsb'_same_setByte (old : BitVec 32) (high : Bool) (v : BitVec 8) :
    (setByte old high v).extractLsb' (if high then 8 else 0) 8 = v := by
  cases high with
  | false => exact BitVec.extractLsb'_append_eq_right
  | true =>
    ext j hj
    grind [setByte]

theorem extractLsb'_low_setByte_high (old : BitVec 32) (v : BitVec 8) :
    (setByte old true v).extractLsb' 0 8 = old.extractLsb' 0 8 :=
  BitVec.extractLsb'_append_eq_right

theorem extractLsb'_upper_setByte (old : BitVec 32) (high : Bool) (v : BitVec 8) :
    (setByte old high v).extractLsb' 16 16 = old.extractLsb' 16 16 := by
  ext j hj
  grind [setByte]

variable {w : Width} (g : Gpr) {r q : Reg}

/-- The doubleword register that holds the register with a code at a width (R31). -/
def homeReg : Width → Reg → Reg
  | .b8, r => r.byteHome
  | .w16, r => r
  | .d32, r => r

theorem Gpr.read_write_same (v : BitVec w.bits) : (g.write w r v).read w r = v := by
  cases w with
  | b8 => rw [Gpr.read, Gpr.write, Gpr.get_set_same, extractLsb'_same_setByte]
  | w16 => rw [Gpr.read, Gpr.write, Gpr.get_set_same, extractLsb'_low_setLow16]
  | d32 => exact Gpr.get_set_same g r v

/-- A write changes one doubleword register only. -/
theorem Gpr.get_write_other (v : BitVec w.bits) (h : q ≠ homeReg w r) : (g.write w r v).get q = g.get q := by
  cases w <;> exact Gpr.get_set_other g _ h

/-- A byte or word write keeps the upper half of every doubleword register (R30). -/
theorem Gpr.upper_get_write (v : BitVec w.bits) (hw : w ≠ .d32) :
    ((g.write w r v).get q).extractLsb' 16 16 = (g.get q).extractLsb' 16 16 := by
  by_cases h : q = homeReg w r
  · subst h
    cases w with
    | b8 => exact (congrArg _ (Gpr.get_set_same g _ _)).trans (extractLsb'_upper_setByte _ _ _)
    | w16 => exact (congrArg _ (Gpr.get_set_same g _ _)).trans (extractLsb'_upper_setLow16 _ _)
    | d32 => exact absurd rfl hw
  · rw [Gpr.get_write_other g v h]

/-- AH and AL are different bytes of EAX. -/
theorem Gpr.read_al_write_ah (v : BitVec 8) : (g.write .b8 .esp v).read .b8 .eax = g.read .b8 .eax :=
  extractLsb'_low_setByte_high g.eax v

end Registers

/-! ### Flags -/

section FreeFlags

variable {s : State}

/-- Free values reach status flags only (R9). -/
theorem Flags.setFrom_sameControl (f : Flags) (x : BitVec 32) (l : List StatusFlag) : f.sameControl (f.setFrom x l) :=
  ⟨f.setFrom_tf x l, f.setFrom_intf x l, f.setFrom_df x l, f.setFrom_iopl x l, f.setFrom_nt x l, f.setFrom_rf x l,
    f.setFrom_vm x l⟩

theorem State.undefineFlags_flagsOnly (l : List StatusFlag) : FlagsOnly s (s.undefineFlags l) :=
  .of_eq (Flags.setFrom_vm _ _ l) rfl

theorem State.logicFlags_flagsOnly {n : Nat} (x : BitVec n) : FlagsOnly s (s.logicFlags x) := .of_eq rfl rfl

end FreeFlags

/-! ### CMP and TEST -/

section Comparisons

variable {s : State} {w : Width} {rm : RM} {r : Reg} {i8 : BitVec 8} {iv : VImm}

theorem State.cmpRM_of {a b : BitVec w.bits} (h : s.readRM w rm = .ok a) :
    s.cmpRM w rm b = .ok (s.aluFlags .cmp a b) := by
  simp [State.cmpRM, h]

theorem State.cmpRegRM_of {b : BitVec w.bits} (h : s.readRM w rm = .ok b) :
    s.cmpRegRM w r rm = .ok (s.aluFlags .cmp (s.reg w r) b) := by
  simp [State.cmpRegRM, State.cmpReg, h]

theorem State.testRM_of {a b : BitVec w.bits} (h : s.readRM w rm = .ok a) :
    s.testRM w rm b = .ok (s.logicFlags (a &&& b)) := by
  simp [State.testRM, h]

theorem exec_cmpRmForms : ∀ i ∈ Claims.rmForms .cmp s rm r i8 iv,
    exec i.instr s = perform .none s fun _ => s.cmpRM i.width rm i.src := by
  simp only [Claims.rmForms, List.forall_mem_cons]
  exact ⟨rfl, rfl, rfl, rfl, rfl, List.forall_mem_nil _⟩

theorem exec_cmpRegForms : ∀ i ∈ Claims.regForms .cmp s r rm,
    exec i.1 s = perform .none s fun _ => s.cmpRegRM i.2 r rm := by
  simp only [Claims.regForms, List.forall_mem_cons]
  exact ⟨rfl, rfl, List.forall_mem_nil _⟩

theorem exec_cmpAccForms : ∀ i ∈ Claims.accForms .cmp s i8 iv,
    exec i.instr s = perform .none s fun _ => .ok (s.cmpReg i.width .eax i.src) := by
  simp only [Claims.accForms, List.forall_mem_cons]
  exact ⟨rfl, rfl, List.forall_mem_nil _⟩

theorem exec_testForms : ∀ i ∈ Claims.testForms s rm r i8 iv,
    exec i.instr s = perform .none s fun _ => s.testRM i.width rm i.src := by
  simp only [Claims.testForms, List.forall_mem_cons]
  exact ⟨rfl, rfl, rfl, rfl, List.forall_mem_nil _⟩

theorem exec_testAccForms :
    ∀ i ∈ ([⟨.testAlImm8 i8, .b8, i8⟩, ⟨.testEaxImmv iv, s.opSize.width, iv.at s.opSize.width⟩] : List Claims.Form),
      exec i.instr s = perform .none s fun _ => .ok (s.logicFlags (s.reg i.width .eax &&& i.src)) := by
  simp only [List.forall_mem_cons]
  exact ⟨rfl, rfl, List.forall_mem_nil _⟩

/-- All that a comparison does. -/
theorem State.cmpFlags_spec {n : Nat} (a b : BitVec n) :
    (s.aluFlags .cmp a b).flags = s.flags.sub a b false ∧ (s.aluFlags .cmp a b).gpr = s.gpr ∧
      Kept s (s.aluFlags .cmp a b) ∧ SameMem s (s.aluFlags .cmp a b) :=
  have h := State.aluFlags_flagsOnly (s := s) .cmp a b
  ⟨State.aluFlags_opFlags .cmp a b, h.gpr_eq, h.kept, h.sameMem⟩

/-- All that a test of bits does. -/
theorem State.logicFlags_spec {n : Nat} (x : BitVec n) :
    (s.logicFlags x).flags = { s.flags.logic x with af := (s.logicFlags x).flags.af } ∧ (s.logicFlags x).gpr = s.gpr ∧
      Kept s (s.logicFlags x) ∧ SameMem s (s.logicFlags x) :=
  have h := State.logicFlags_flagsOnly (s := s) x
  ⟨rfl, h.gpr_eq, h.kept, h.sameMem⟩

end Comparisons

/-- Settles O3: the forms of each shape run one operation (`exec_cmpRmForms` to `exec_testAccForms`), whose whole effect
is to set flags (`State.cmpFlags_spec`, `State.logicFlags_spec`). -/
theorem compareAndTestOnlySetFlags : Obligations.CompareAndTestOnlySetFlags := by
  refine fun s hs => ⟨fun rm r i8 iv i hi a ha => ?_, fun r rm i hi b hb => ?_, fun i8 iv i hi => ?_,
    fun rm r i8 iv i hi a ha => ?_, fun i8 iv i hi => ?_⟩
  · exact ⟨_, (exec_cmpRmForms i hi).trans (perform_plain hs (State.cmpRM_of ha)), State.cmpFlags_spec a i.src⟩
  · exact ⟨_, (exec_cmpRegForms i hi).trans (perform_plain hs (State.cmpRegRM_of hb)), State.cmpFlags_spec _ b⟩
  · exact ⟨_, (exec_cmpAccForms i hi).trans (perform_plain hs rfl), State.cmpFlags_spec _ i.src⟩
  · exact ⟨_, (exec_testForms i hi).trans (perform_plain hs (State.testRM_of ha)), State.logicFlags_spec (a &&& i.src)⟩
  · exact ⟨_, (exec_testAccForms i hi).trans (perform_plain hs rfl), State.logicFlags_spec _⟩

/-! ### Divisions -/

section Divisions

variable {s : State} {w : Width} {rm : RM} {d : BitVec w.bits}

/-- The register of the remainder is written after that of the quotient. -/
theorem State.setQuotRem_eq (q r : BitVec w.bits) :
    s.setQuotRem w q r = (s.setReg w .eax q).setReg w (Claims.remReg w) r := by
  cases w <;> rfl

theorem State.setQuotRem_rem (q r : BitVec w.bits) : (s.setQuotRem w q r).reg w (Claims.remReg w) = r := by
  rw [State.setQuotRem_eq]
  exact Gpr.read_write_same _ r

theorem State.setQuotRem_quot (q r : BitVec w.bits) : (s.setQuotRem w q r).reg w .eax = q := by
  have hquot := Gpr.read_write_same (r := .eax) s.gpr q
  cases w with
  | b8 => exact (Gpr.read_al_write_ah _ r).trans hquot
  | w16 | d32 => exact hquot

theorem State.setQuotRem_onlyAccumulator (q r : BitVec w.bits) : Claims.OnlyAccumulator s (s.setQuotRem w q r) w := by
  have hgpr : (s.setQuotRem w q r).gpr = (s.gpr.write w .eax q).write w (Claims.remReg w) r :=
    congrArg State.gpr (State.setQuotRem_eq q r)
  have hquot : homeReg w .eax = .eax := by cases w <;> rfl
  have hupper (hw : w ≠ .d32) (x : Reg) :
      ((s.setQuotRem w q r).gpr.get x).extractLsb' 16 16 = (s.gpr.get x).extractLsb' 16 16 := by
    rw [hgpr, Gpr.upper_get_write _ r hw, Gpr.upper_get_write _ q hw]
  have hother {x : Reg} (hx : x ≠ .eax) (hrem : x ≠ homeReg w (Claims.remReg w)) :
      (s.setQuotRem w q r).gpr.get x = s.gpr.get x := by
    rw [hgpr, Gpr.get_write_other _ r hrem, Gpr.get_write_other _ q (hquot.symm ▸ hx)]
  refine ⟨fun x hax hdx => hother hax ?_, fun hw => ⟨hupper hw .eax, hupper hw .edx⟩, ?_⟩
  · cases w with
    | b8 => exact hax
    | w16 | d32 => exact hdx
  · rintro rfl
    exact hother (x := .edx) (by decide) (by decide)

theorem State.divFlags_flagsOnly : FlagsOnly s s.divFlags := State.undefineFlags_flagsOnly _

/-- The general registers are no part of what `Kept` and `SameMem` compare. -/
theorem Kept.setReg {u : State} {x : Reg} {v : BitVec w.bits} (h : Kept s u) : Kept s (u.setReg w x v) := h

theorem SameMem.setReg {u : State} {x : Reg} {v : BitVec w.bits} (h : SameMem s u) : SameMem s (u.setReg w x v) := h

/-- All that a division does that gives the quotient `q` and the remainder `r`. -/
theorem State.divFlags_setQuotRem_spec (q r : BitVec w.bits) :
    Claims.OnlyAccumulator s (s.divFlags.setQuotRem w q r) w ∧
      s.flags.sameControl (s.divFlags.setQuotRem w q r).flags ∧ Kept s (s.divFlags.setQuotRem w q r) ∧
      SameMem s (s.divFlags.setQuotRem w q r) := by
  have h := State.divFlags_flagsOnly (s := s)
  have hflags := s.flags.setFrom_sameControl (Config.freeBits s.draws) [.cf, .pf, .af, .zf, .sf, .ofl]
  refine ⟨State.setQuotRem_onlyAccumulator (s := s.divFlags) q r, ?_⟩
  rw [State.setQuotRem_eq]
  exact ⟨hflags, h.kept.setReg.setReg, h.sameMem.setReg.setReg⟩

/-- A meaning is run on the state it is given. -/
theorem perform_const_body (rule : GroupRule) (s : State) (body : State → Res State) :
    perform rule s body = perform rule s fun _ => body s := rfl

theorem exec_divForms : ∀ i ∈ [(Instr.divRm8 rm, Width.b8), (.divRmv rm, s.opSize.width)],
    exec i.1 s = perform .none s fun _ => s.divRM i.2 rm := by
  simp only [List.forall_mem_cons]
  exact ⟨(exec_divRm8 s rm).trans (perform_const_body _ s _), (exec_divRmv s rm).trans (perform_const_body _ s _),
    List.forall_mem_nil _⟩

theorem exec_idivForms : ∀ i ∈ [(Instr.idivRm8 rm, Width.b8), (.idivRmv rm, s.opSize.width)],
    exec i.1 s = perform .none s fun _ => s.idivRM i.2 rm := by
  simp only [List.forall_mem_cons]
  exact ⟨(exec_idivRm8 s rm).trans (perform_const_body _ s _), (exec_idivRmv s rm).trans (perform_const_body _ s _),
    List.forall_mem_nil _⟩

theorem State.divRM_eq (h : s.readRM w rm = .ok d) : s.divRM w rm =
    if d = 0 ∨ 2 ^ w.bits ≤ s.dividend w / d.toNat then raise excDE
    else .ok (s.divFlags.setQuotRem w (BitVec.ofNat _ (s.dividend w / d.toNat))
      (BitVec.ofNat _ (s.dividend w % d.toNat))) := by
  have hzero : d.toNat = 0 ↔ d = 0 := by simp [← BitVec.toNat_inj]
  rw [State.divRM, h]
  exact if_congr (or_congr_left hzero) rfl rfl

theorem fitsSigned_eq_false_iff {n : Nat} {v : Int} :
    fitsSigned n v = false ↔ v < -(2 ^ (n - 1) : Int) ∨ (2 ^ (n - 1) : Int) ≤ v := by
  simp only [fitsSigned, Bool.and_eq_false_iff, decide_eq_false_iff_not, Int.not_le, Int.not_lt]

theorem State.idivRM_eq (h : s.readRM w rm = .ok d) : s.idivRM w rm =
    if d = 0 ∨ (s.signedDividend w).tdiv d.toInt < -(2 ^ (w.bits - 1) : Int) ∨
        (2 ^ (w.bits - 1) : Int) ≤ (s.signedDividend w).tdiv d.toInt then raise excDE
    else .ok (s.divFlags.setQuotRem w (BitVec.ofInt _ ((s.signedDividend w).tdiv d.toInt))
      (BitVec.ofInt _ ((s.signedDividend w).tmod d.toInt))) := by
  have hzero : d.toInt = 0 ↔ d = 0 := by simp [← BitVec.toInt_inj]
  simp only [State.idivRM, h, fitsSigned_eq_false_iff, hzero]

/-- A remainder is smaller than its divisor. -/
theorem toNat_ofNat_mod {n : Nat} (a : Nat) {d : BitVec n} (hd : d ≠ 0) :
    (BitVec.ofNat n (a % d.toNat)).toNat = a % d.toNat := by
  rw [BitVec.toNat_ofNat, Nat.mod_eq_of_lt ((Nat.mod_lt a (BitVec.toNat_pos_of_ne_zero hd)).trans d.isLt)]

/-- A signed remainder is smaller than its divisor in absolute value, and so has the width of it. -/
theorem toInt_ofInt_tmod {n : Nat} (a : Int) {d : BitVec n} (hn : 0 < n) (hd : d ≠ 0) :
    (BitVec.ofInt n (a.tmod d.toInt)).toInt = a.tmod d.toInt := by
  have hpos : 0 < d.toInt.natAbs :=
    Int.natAbs_pos.2 fun h => hd (BitVec.toInt_inj.1 (h.trans BitVec.toInt_zero.symm))
  have hlt : (a.tmod d.toInt).natAbs < d.toInt.natAbs := by
    rw [Int.natAbs_tmod]
    exact Nat.mod_lt _ hpos
  have hlow := BitVec.le_toInt d
  have hhigh := BitVec.toInt_lt (x := d)
  exact BitVec.toInt_ofInt_eq_self hn (by omega) (by omega)

end Divisions

/-- Settles O12: a division raises Interrupt 0 or sets the accumulator (`State.divRM_eq`, `State.idivRM_eq`), whose
parts hold the quotient, which fits by hypothesis, and the remainder (`toNat_ofNat_mod`, `toInt_ofInt_tmod`). -/
theorem divisionsGiveQuotientAndRemainderOrInterrupt0 : Obligations.DivisionsGiveQuotientAndRemainderOrInterrupt0 := by
  refine ⟨fun s rm hs => ⟨fun i hi d hd hne hfits => ?_, fun i hi d hd hne hlow hhigh => ?_⟩,
    fun s rm hs => ⟨fun i hi d hd hbad => ?_, fun i hi d hd hbad => ?_⟩⟩
  · have hgood := not_or.2 ⟨hne, Nat.not_le.2 hfits⟩
    refine ⟨_, (exec_divForms i hi).trans (perform_plain hs ((State.divRM_eq hd).trans (if_neg hgood))), ?_, ?_,
      State.divFlags_setQuotRem_spec _ _⟩
    · rw [State.setQuotRem_quot, BitVec.toNat_ofNat, Nat.mod_eq_of_lt hfits]
    · rw [State.setQuotRem_rem, toNat_ofNat_mod _ hne]
  · have hgood := not_or.2 ⟨hne, not_or.2 ⟨Int.not_lt.2 hlow, Int.not_le.2 hhigh⟩⟩
    refine ⟨_, (exec_idivForms i hi).trans (perform_plain hs ((State.idivRM_eq hd).trans (if_neg hgood))), ?_, ?_,
      State.divFlags_setQuotRem_spec _ _⟩
    · rw [State.setQuotRem_quot, BitVec.toInt_ofInt_eq_self i.2.bits_pos hlow hhigh]
    · rw [State.setQuotRem_rem, toInt_ofInt_tmod _ i.2.bits_pos hne]
  · exact (exec_divForms i hi).trans (perform_plain_raise hs ((State.divRM_eq hd).trans (if_pos hbad)))
  · exact (exec_idivForms i hi).trans (perform_plain_raise hs ((State.idivRM_eq hd).trans (if_pos hbad)))

/-! ### Instructions that write flags -/

section FlagInstructions

variable {s : State}

/-- The status flags in a byte laid out as the low byte of EFLAGS (R33). -/
theorem getLsbD_flagsByte {n : Nat} (x : BitVec n) (b7 b6 b4 b2 b0 : Bool) :
    let v := (x ++ BitVec.ofBool b7 ++ BitVec.ofBool b6 ++ 0#1 ++ BitVec.ofBool b4 ++ 0#1 ++ BitVec.ofBool b2 ++ 1#1 ++
      BitVec.ofBool b0).setWidth 8
    v.getLsbD 7 = b7 ∧ v.getLsbD 6 = b6 ∧ v.getLsbD 4 = b4 ∧ v.getLsbD 2 = b2 ∧ v.getLsbD 0 = b0 := by
  simp [BitVec.getElem_append]

theorem Flags.getLsbD_image_low (f : Flags) :
    let v := f.image.setWidth 8
    v.getLsbD 7 = f.sf ∧ v.getLsbD 6 = f.zf ∧ v.getLsbD 4 = f.af ∧ v.getLsbD 2 = f.pf ∧ v.getLsbD 0 = f.cf :=
  getLsbD_flagsByte _ f.sf f.zf f.af f.pf f.cf

theorem State.needFlagPrivilege_of (h : Claims.MayChangeIf s) : s.needFlagPrivilege = .ok () := by
  rw [State.needFlagPrivilege, need_ok]
  simpa [Claims.MayChangeIf, Classical.or_iff_not_imp_left] using h

theorem State.needFlagPrivilege_of_not (h : ¬ Claims.MayChangeIf s) : s.needFlagPrivilege = raise (excGP 0) := by
  refine if_neg ?_
  simpa [Claims.MayChangeIf, not_or] using h

end FlagInstructions

/-- Settles O24: each meaning is one update of the flags, and LAHF's value is `Flags.getLsbD_image_low`. -/
theorem flagInstructionsChangeNamedFlags : Obligations.FlagInstructionsChangeNamedFlags := by
  intro s hs
  have h : FlagsOnly s s := .of_eq rfl rfl
  refine ⟨(exec_clc s).trans (perform_plain hs rfl), (exec_stc s).trans (perform_plain hs rfl),
    (exec_cmc s).trans (perform_plain hs rfl), (exec_cld s).trans (perform_plain hs rfl),
    (exec_std s).trans (perform_plain hs rfl), (exec_sahf s).trans (perform_plain hs rfl), ?_⟩
  exact ⟨_, _, (exec_lahf s).trans (perform_plain hs rfl), ⟨h.setReg_gpr, rfl, h.setReg_kept, h.setReg_sameMem⟩,
    s.flags.getLsbD_image_low⟩

/-- Settles O25: both meanings begin with the same check (`State.needFlagPrivilege_of`,
`State.needFlagPrivilege_of_not`). -/
theorem interruptFlagNeedsPrivilege : Obligations.InterruptFlagNeedsPrivilege := by
  refine fun s hs => ⟨fun hmay => ⟨?_, ?_⟩, fun hnot => ⟨?_, ?_⟩⟩
  · exact (exec_cli s).trans (perform_plain hs (by rw [State.cli, State.needFlagPrivilege_of hmay]))
  · refine (exec_sti s).trans (perform_plain hs ?_)
    rw [State.sti, State.needFlagPrivilege_of hmay]
    cases s.flags.intf <;> rfl
  · exact (exec_cli s).trans (perform_plain_raise hs (by rw [State.cli, State.needFlagPrivilege_of_not hnot]; rfl))
  · exact (exec_sti s).trans (perform_plain_raise hs (by rw [State.sti, State.needFlagPrivilege_of_not hnot]; rfl))

end Sys2Proof.Machine

/-! PROOFS. O4, O26, O46: INC, DEC, NEG and NOT, the I/O space, HLT, WAIT and ESC. -/

namespace Sys2Proof.Machine

/-- An instruction whose prefixes are allowed is its body, settled. -/
theorem perform_allowed {rule : GroupRule} {s : State} {body : State → Res State}
    (h : rule.allows s.seq.pfx.group = true) : perform rule s body = s.settle (body s) := by
  rw [perform, if_pos h]

/-! ### INC, DEC, NEG and NOT -/

section UnaryOperations

variable {s : State} {w : Width} {rm : RM} {q : Reg}

/-- A register operand takes none of the LOCK and repeat prefixes (R343). -/
theorem plain_of_lockFits_reg (h : Claims.LockFits s (.reg q)) : s.plain := by
  obtain hplain | ⟨-, ea, hea⟩ := h
  · exact hplain
  · cases hea

theorem exec_incForms : ∀ i ∈ [(Instr.incRm8 rm, Width.b8, rm), (.incRmv rm, s.opSize.width, rm),
    (.incRv q, s.opSize.width, .reg q)], Claims.LockFits s i.2.2 → exec i.1 s = s.settle (s.incRM i.2.1 i.2.2) := by
  simp only [List.forall_mem_cons]
  exact ⟨fun h => (exec_incRm8 s rm).trans (perform_allowed (GroupRule.allows_of_lockFits h)),
    fun h => (exec_incRmv s rm).trans (perform_allowed (GroupRule.allows_of_lockFits h)),
    fun h => (exec_incRv s q).trans (perform_allowed (GroupRule.allows_plain _ (plain_of_lockFits_reg h))),
    List.forall_mem_nil _⟩

theorem exec_decForms : ∀ i ∈ [(Instr.decRm8 rm, Width.b8, rm), (.decRmv rm, s.opSize.width, rm),
    (.decRv q, s.opSize.width, .reg q)], Claims.LockFits s i.2.2 → exec i.1 s = s.settle (s.decRM i.2.1 i.2.2) := by
  simp only [List.forall_mem_cons]
  exact ⟨fun h => (exec_decRm8 s rm).trans (perform_allowed (GroupRule.allows_of_lockFits h)),
    fun h => (exec_decRmv s rm).trans (perform_allowed (GroupRule.allows_of_lockFits h)),
    fun h => (exec_decRv s q).trans (perform_allowed (GroupRule.allows_plain _ (plain_of_lockFits_reg h))),
    List.forall_mem_nil _⟩

theorem exec_negForms (h : Claims.LockFits s rm) : ∀ i ∈ [(Instr.negRm8 rm, Width.b8), (.negRmv rm, s.opSize.width)],
    exec i.1 s = s.settle (s.negRM i.2 rm) := by
  simp only [List.forall_mem_cons]
  exact ⟨(exec_negRm8 s rm).trans (perform_allowed (GroupRule.allows_of_lockFits h)),
    (exec_negRmv s rm).trans (perform_allowed (GroupRule.allows_of_lockFits h)), List.forall_mem_nil _⟩

theorem exec_notForms (h : Claims.LockFits s rm) : ∀ i ∈ [(Instr.notRm8 rm, Width.b8), (.notRmv rm, s.opSize.width)],
    exec i.1 s = s.settle (s.notRM i.2 rm) := by
  simp only [List.forall_mem_cons]
  exact ⟨(exec_notRm8 s rm).trans (perform_allowed (GroupRule.allows_of_lockFits h)),
    (exec_notRmv s rm).trans (perform_allowed (GroupRule.allows_of_lockFits h)), List.forall_mem_nil _⟩

/-- A read-modify-write that sets flags answers the state with the result stored and these flags. -/
theorem State.settle_updateRM {a : BitVec w.bits} {f : BitVec w.bits → BitVec w.bits × State}
    (h : s.readDest w rm = .ok a) (hf : FlagsOnly s (f a).2) :
    ∃ t, s.settle (s.updateRM w rm f) = .next t ∧ Stores s t w rm (f a).1 ∧ t.flags = (f a).2.flags ∧ Kept s t := by
  obtain ⟨t, ht, hstores, hkept, hflags, -⟩ := State.updateRM_of h f hf
  exact ⟨t, by rw [ht]; rfl, hstores, hflags, hkept⟩

end UnaryOperations

/-- Settles O4: the forms of each operation run one read-modify-write (`exec_incForms` and its siblings), which stores
its result and sets flags only (`State.settle_updateRM`). -/
theorem unaryOperationsStoreResult : Obligations.UnaryOperationsStoreResult := by
  refine fun s rm q => ⟨fun i hi hlock a ha => ?_, fun i hi hlock a ha => ?_, fun i hi hlock a ha => ?_,
    fun i hi hlock a ha => ?_⟩
  · rw [exec_incForms i hi hlock]
    exact State.settle_updateRM ha (.of_eq rfl rfl)
  · rw [exec_decForms i hi hlock]
    exact State.settle_updateRM ha (.of_eq rfl rfl)
  · rw [exec_negForms hlock i hi]
    exact State.settle_updateRM ha (.of_eq rfl rfl)
  · rw [exec_notForms hlock i hi]
    exact State.settle_updateRM ha (.of_eq rfl rfl)

/-! ### The I/O space -/

section PortAccesses

variable {s : State} {port : BitVec 16} {w : Width} {n off : Nat} {x : BitVec 16} {i8 : BitVec 8}

theorem State.tssRead_of_tssWord (h : Claims.TssWord s off x) : s.tssRead .w16 off 0 = .ok x := by
  obtain ⟨hvalid, hlimit, hread⟩ := h
  rw [State.tssRead, hvalid, decide_eq_true hlimit]
  exact hread

/-- The permission bits of `n` ports are all clear exactly where none of them is set (R8). -/
theorem ioMask_clear_iff : (x.toNat &&& (ioMask n <<< (port.toNat % 8)) == 0) = true ↔
    ∀ k, k < n → x.getLsbD (port.toNat % 8 + k) = false := by
  rw [beq_iff_eq, Nat.eq_iff_testBit_eq]
  simp only [Nat.testBit_and, ioMask, Nat.testBit_shiftLeft, Nat.testBit_two_pow_sub_one, Nat.zero_testBit,
    BitVec.testBit_toNat]
  refine ⟨fun h k hk => ?_, fun h j => ?_⟩
  · simpa [hk] using h (port.toNat % 8 + k)
  · by_cases hj : port.toNat % 8 ≤ j ∧ j - port.toNat % 8 < n
    · simpa [hj, Nat.add_sub_cancel' hj.1] using h _ hj.2
    · simp only [not_and] at hj
      simpa using fun _ hle => Nat.le_of_not_lt (hj hle)

/-- A bitmap within the limit decides by its word at the port (R8). -/
theorem State.ioPermission_of_word {ptr : BitVec 16} (his : s.tables.tr.is386 = true) (hptr : Claims.TssWord s 0x66 ptr)
    (hx : Claims.TssWord s (port.toNat / 8 + ptr.toNat) x) :
    s.ioPermission port n = .ok (x.toNat &&& (ioMask n <<< (port.toNat % 8)) == 0) := by
  have hlimit : port.toNat / 8 + ptr.toNat + 1 ≤ s.tables.tr.limit.toNat := by
    obtain ⟨-, hlimit, -⟩ := hx
    omega
  rw [State.ioPermission, his, State.tssRead_of_tssWord hptr]
  simp only [Bool.not_true, Bool.false_eq_true, if_false, if_pos hlimit, State.tssRead_of_tssWord hx]

/-- A bitmap beyond the limit denies (D7). -/
theorem State.ioPermission_beyond {ptr : BitVec 16} (his : s.tables.tr.is386 = true) (hptr : Claims.TssWord s 0x66 ptr)
    (h : s.tables.tr.limit.toNat + 1 < port.toNat / 8 + ptr.toNat + 2) : s.ioPermission port n = .ok false := by
  have hlimit : ¬ port.toNat / 8 + ptr.toNat + 1 ≤ s.tables.tr.limit.toNat := by omega
  rw [State.ioPermission, his, State.tssRead_of_tssWord hptr]
  simp only [Bool.not_true, Bool.false_eq_true, if_false, if_neg hlimit]

theorem State.ioPermission_of_allows (h : Claims.BitmapAllows s port n) : s.ioPermission port n = .ok true := by
  obtain ⟨his, ptr, bits, hptr, hbits, hclear⟩ := h
  rw [State.ioPermission_of_word his hptr hbits, ioMask_clear_iff.2 hclear]

theorem State.ioPermission_of_denies (h : Claims.BitmapDenies s port n) : s.ioPermission port n = .ok false := by
  cases his : s.tables.tr.is386 with
  | false => rw [State.ioPermission, his]; rfl
  | true =>
    obtain h286 | ⟨ptr, hptr, hbeyond | ⟨bits, k, hbits, hk, hset⟩⟩ := h
    · rw [his] at h286
      cases h286
    · exact State.ioPermission_beyond his hptr hbeyond
    · rw [State.ioPermission_of_word his hptr hbits, Except.ok.injEq, Bool.eq_false_iff]
      intro hclear
      rw [ioMask_clear_iff.1 hclear k hk] at hset
      cases hset

theorem asksBitmap_iff :
    (s.ctrl.cr0.pe && (s.flags.vm || decide (s.flags.iopl < s.cpl))) = true ↔ Claims.AsksBitmap s := by
  simp [Claims.AsksBitmap]

theorem State.needPort_of_allowed (h : Claims.PortAllowed s port n) : s.needPort port n = .ok () := by
  by_cases hask : Claims.AsksBitmap s
  · rw [State.needPort, if_pos (asksBitmap_iff.2 hask), State.ioPermission_of_allows (h.resolve_left (not_not.2 hask))]
    rfl
  · rw [State.needPort, if_neg (mt asksBitmap_iff.1 hask)]

theorem State.needPort_of_denied (h : Claims.PortDenied s port n) : s.needPort port n = raise (excGP 0) := by
  obtain ⟨hask, hdenies⟩ := h
  rw [State.needPort, if_pos (asksBitmap_iff.2 hask), State.ioPermission_of_denies hdenies]
  rfl

/-- All that an allowed IN does: it takes a value from the port, records the event and loads the accumulator. -/
theorem State.inPort_of_allowed (hrange : port.toNat + w.bytes ≤ 2 ^ 16) (h : Claims.PortAllowed s port w.bytes) :
    let v : BitVec w.bits := (Config.ioRead s.draws port w.bytes).setWidth _
    s.inPort w port = .ok ({ s with
      draws := s.draws + 1, io := s.io ++ [IoEvent.input port w.bytes (v.setWidth 32)] }.setReg w .eax v) := by
  rw [State.inPort, State.needPort_of_allowed h, State.portIn, needPortRange, if_pos hrange]

/-- All that an allowed OUT does: it records the event with the accumulator's value. -/
theorem State.outPort_of_allowed (hrange : port.toNat + w.bytes ≤ 2 ^ 16) (h : Claims.PortAllowed s port w.bytes) :
    s.outPort w port = .ok { s with io := s.io ++ [.output port w.bytes ((s.reg w .eax).setWidth 32)] } := by
  rw [State.outPort, State.needPort_of_allowed h, State.portOut, needPortRange, if_pos hrange]

theorem State.inPort_of_denied (h : Claims.PortDenied s port w.bytes) : s.inPort w port = raise (excGP 0) := by
  rw [State.inPort, State.needPort_of_denied h]
  rfl

theorem State.outPort_of_denied (h : Claims.PortDenied s port w.bytes) : s.outPort w port = raise (excGP 0) := by
  rw [State.outPort, State.needPort_of_denied h]
  rfl

/-- The IN forms are one operation. -/
theorem exec_inForms : ∀ i ∈ Claims.inForms s i8, exec i.1 s = perform .none s fun s => s.inPort i.2.2 i.2.1 := by
  simp only [Claims.inForms, List.forall_mem_cons]
  exact ⟨rfl, rfl, rfl, rfl, List.forall_mem_nil _⟩

/-- The OUT forms are one operation. -/
theorem exec_outForms : ∀ i ∈ Claims.outForms s i8, exec i.1 s = perform .none s fun s => s.outPort i.2.2 i.2.1 := by
  simp only [Claims.outForms, List.forall_mem_cons]
  exact ⟨rfl, rfl, rfl, rfl, List.forall_mem_nil _⟩

end PortAccesses

/-- Settles O26: each form asks the permission of its port first (`State.needPort_of_allowed`,
`State.needPort_of_denied`), and an allowed one is one event. -/
theorem portAccessesMoveTheAccumulator : Obligations.PortAccessesMoveTheAccumulator := by
  refine fun s i8 hs => ⟨fun i hi hrange hallowed => ?_, fun i hi hrange hallowed => ?_, fun i hi hdenied => ?_⟩
  · exact ⟨_, _, (exec_inForms i hi).trans (perform_plain hs (State.inPort_of_allowed hrange hallowed)), rfl, rfl, rfl,
      ⟨rfl, fun _ => rfl⟩, rfl, rfl, rfl, rfl, rfl, rfl, rfl⟩
  · exact (exec_outForms i hi).trans (perform_plain hs (State.outPort_of_allowed hrange hallowed))
  · obtain hin | hout := List.mem_append.1 hi
    · exact (exec_inForms i hin).trans (perform_plain_raise hs (State.inPort_of_denied hdenied))
    · exact (exec_outForms i hout).trans (perform_plain_raise hs (State.outPort_of_denied hdenied))

/-! ### HLT, WAIT and ESC -/

section CoprocessorPins

variable {s : State} {rm : RM}

/-- Where #NM does not stop it, WAIT looks at ERROR#, then at BUSY# (R441). -/
theorem State.waitPins_of_available (h : ¬ (s.ctrl.cr0.mp = true ∧ s.ctrl.cr0.ts = true)) :
    s.waitPins = if s.pins.error then raise excMF else if s.pins.busy then .ok s.waitHere else .ok s :=
  if_neg (by simpa using h)

/-- Where #NM does not stop it, and no coprocessor is attached (D22), ESC checks its operand's address only. -/
theorem State.escape_of_available (hem : s.ctrl.cr0.em = false) (hts : s.ctrl.cr0.ts = false)
    (hrm : s.escOperand rm = .ok ()) : s.escape rm = .ok s := by
  simp [State.escape, hem, hts, hrm, Config.hasNpx]

end CoprocessorPins

/-- Settles O46: WAIT is a case split over CR0 and the pins (`State.waitPins_of_available`), ESC one over CR0
(`State.escape_of_available`). -/
theorem haltWaitAndEscape : Obligations.HaltWaitAndEscape := by
  refine fun s hs => ⟨fun hcpl => ?_, fun hnm => ?_, fun hnm herror => ?_, fun hnm herror hbusy => ?_,
    fun hnm herror hbusy => ?_, fun a b rm hnm => ?_, fun a b hem hts => ⟨fun q => ?_, fun ea bs hbs => ?_⟩⟩
  · have hlevel : s.needCpl0 = .ok () := need_ok.2 (by simp [hcpl])
    exact (exec_hlt s).trans (perform_plain hs (by rw [hlevel]))
  · exact (exec_wait s).trans (perform_plain_raise hs (if_pos (by simp [hnm])))
  · exact (exec_wait s).trans (perform_plain_raise hs (by simp [State.waitPins_of_available hnm, herror, excMF]))
  · exact (exec_wait s).trans
      (perform_plain hs (by simp [State.waitPins_of_available hnm, herror, hbusy, State.waitHere]))
  · exact (exec_wait s).trans (perform_plain hs (by simp [State.waitPins_of_available hnm, herror, hbusy]))
  · exact (exec_esc s a b rm).trans (perform_plain_raise hs (if_pos (by simpa using hnm)))
  · exact (exec_esc s a b _).trans (perform_plain hs (State.escape_of_available hem hts rfl))
  · exact (exec_esc s a b _).trans
      (perform_plain hs (State.escape_of_available hem hts (by rw [State.escOperand, hbs])))

end Sys2Proof.Machine

/-! PROOFS. O23: ENTER and LEAVE. Registers at a size of 16 or 32 bits come first, then the items of a frame and the memory
that holds them, then the run of ENTER and its check. -/

namespace Sys2Proof

theorem Size.width_bytes (z : Size) : z.width.bytes = z.bytes := by
  cases z <;> rfl

theorem Size.setWidth_setWidth (z : Size) (v : BitVec z.width.bits) : (v.setWidth 32).setWidth z.width.bits = v := by
  cases z with
  | s16 => exact BitVec.setWidth_setWidth_of_le v (by decide)
  | s32 => simp

end Sys2Proof

namespace Sys2Proof.Machine

/-! ### Registers at a size of 16 or 32 bits -/

section SizedRegisters

variable {s : State} {z y : Size} {r : Reg} (g : Gpr)

theorem Gpr.set_set (a b : BitVec 32) : (g.set r a).set r b = g.set r b := by
  cases r <;> rfl

theorem Gpr.set_get : g.set r (g.get r) = g := by
  cases r <;> rfl

theorem Gpr.write_write (a b : BitVec z.width.bits) : (g.write z.width r a).write z.width r b = g.write z.width r b := by
  cases z with
  | s16 =>
    simp only [Gpr.write, Gpr.set_set, Gpr.get_set_same]
    rw [setLow16, extractLsb'_upper_setLow16, ← setLow16]
  | s32 => exact Gpr.set_set g a b

theorem Gpr.write_read : g.write z.width r (g.read z.width r) = g := by
  cases z with
  | s16 => exact (congrArg (g.set r) BitVec.extractLsb'_append_extractLsb').trans (Gpr.set_get g)
  | s32 => exact Gpr.set_get g

/-- The stack pointer and the frame pointer are different registers. -/
theorem Gpr.write_esp_ebp (a : BitVec z.width.bits) (b : BitVec y.width.bits) :
    (g.write y.width .esp b).write z.width .ebp a = (g.write z.width .ebp a).write y.width .esp b := by
  cases z <;> cases y <;> rfl

theorem truncSize_eq (v : BitVec 32) : truncSize z v = (v.setWidth z.width.bits).setWidth 32 := by
  cases z <;> simp [truncSize]

theorem truncSize_truncSize (v : BitVec 32) : truncSize z (truncSize z v) = truncSize z v := by
  rw [truncSize_eq, truncSize_eq, z.setWidth_setWidth]

/-- Cutting to a size before a subtraction is no different from cutting after it. -/
theorem truncSize_truncSize_sub (a b : BitVec 32) : truncSize z (truncSize z a - b) = truncSize z (a - b) := by
  cases z with
  | s16 => simp only [truncSize]; bv_omega
  | s32 => rfl

theorem State.reg_eq_setWidth : s.reg z.width r = (s.gpr.get r).setWidth _ := by
  cases z with
  | s16 => exact (BitVec.setWidth_eq_extractLsb' (by decide)).symm
  | s32 => simp [State.reg, Gpr.read]

theorem State.eReg_setEReg (v : BitVec 32) : (s.setEReg z r v).eReg z r = truncSize z v := by
  rw [truncSize_eq]
  exact congrArg _ (Gpr.read_write_same _ _)

theorem State.setEReg_eReg_gpr : (s.setEReg z r (s.eReg z r)).gpr = s.gpr := by
  rw [State.setEReg_gpr, State.eReg, z.setWidth_setWidth]
  exact Gpr.write_read _

theorem State.setEReg_stackSize (v : BitVec 32) : (s.setEReg z r v).stackSize = s.stackSize := rfl

theorem truncSize_eReg : truncSize z (s.eReg z r) = s.eReg z r := by
  rw [truncSize_eq, State.eReg, z.setWidth_setWidth]

/-- A read through a segment register depends on no general register. -/
theorem State.setEReg_memRead (v off : BitVec 32) (x : SReg) (w : Width) :
    (s.setEReg z r v).memRead x w off = s.memRead x w off := by
  have haddrs := State.physAddrs_congr (s := s) (u := s.setEReg z r v) rfl rfl
  simp only [State.memRead, State.linRead, State.linBytes, haddrs]
  rfl

end SizedRegisters

/-! ### The items of a frame -/

section FrameItems

/-- Of items side by side on a stack, each at its own offset, no two share a byte, also where they wrap past the top of
a 16-bit stack. -/
theorem stackItems_apart {z y : Size} {j k i i' : Nat} (base sp : BitVec 32) (hjk : j ≠ k) (hj : j < 32) (hk : k < 32)
    (hi : i < y.bytes) (hi' : i' < y.bytes) :
    (base + truncSize z (sp - BitVec.ofNat 32 ((j + 1) * y.bytes)) + BitVec.ofNat 32 i).toNat ≠
      (base + truncSize z (sp - BitVec.ofNat 32 ((k + 1) * y.bytes)) + BitVec.ofNat 32 i').toNat := by
  intro h
  have hitem := BitVec.eq_of_toNat_eq h
  rw [BitVec.add_assoc, BitVec.add_assoc, BitVec.add_right_inj] at hitem
  clear h base
  cases z with
  | s16 | s32 =>
    simp only [truncSize] at hitem
    cases y <;> simp only [Size.bytes] at hi hi' hitem <;> bv_omega

variable {s : State} {l j k : Nat}

/-- The offset of the item that the outer display has at level `k`, by the frame pointer (R270). -/
def State.enterOuter (s : State) (k : Nat) : BitVec 32 :=
  (s.setEReg s.opSize .ebp (s.eReg s.opSize .ebp - BitVec.ofNat 32 (k * s.opSize.bytes))).eReg s.opSize .ebp

/-- The offset of the `k`-th item that ENTER pushes, counted from 0 (R270). -/
def State.enterOffset (s : State) (k : Nat) : BitVec 32 := s.pushOffset ((k + 1) * s.opSize.bytes)

/-- The addresses of the `k`-th item with paging off. -/
def State.enterAddrs (s : State) (k : Nat) : List Nat := linearAddrs s.opSize.bytes (s.linear .ss (s.enterOffset k))

/-- The `k`-th item of a frame of level `l`, pushed when memory is `m`: the old frame pointer, an item of the outer
display, or the new frame pointer (R270). -/
def State.enterItem (s : State) (l k : Nat) (m : Memory) : BitVec s.opSize.width.bits :=
  if k = 0 then s.reg s.opSize.width .ebp
  else if k < l then BitVec.ofNat _ (leNat (memBytes m (linearAddrs s.opSize.bytes (s.linear .ss (s.enterOuter k)))))
  else (s.pushOffset s.opSize.bytes).setWidth _

/-- Memory once `k` items of a frame of level `l` are pushed. -/
def State.enterMem (s : State) (l : Nat) : Nat → Memory
  | 0 => s.mem
  | k + 1 => memSetBytes (s.enterMem l k) (s.enterAddrs k)
      (leBytes s.opSize.bytes (s.enterItem l k (s.enterMem l k)).toNat)

theorem State.enterOuter_eq :
    s.enterOuter k = truncSize s.opSize (s.eReg s.opSize .ebp - BitVec.ofNat 32 (k * s.opSize.bytes)) :=
  State.eReg_setEReg _

theorem State.enterMem_wf (hwf : s.mem.wf = true) : (s.enterMem l k).wf = true := by
  induction k with
  | zero => exact hwf
  | succ k ih => exact memSetBytes_wf ih _ _

theorem State.enterAddrs_disjoint (hjk : j ≠ k) (hj : j < 32) (hk : k < 32) {a : Nat} (ha : a ∈ s.enterAddrs j) :
    a ∉ s.enterAddrs k := by
  intro ha'
  obtain ⟨i, hi, rfl⟩ := mem_linearAddrs.1 ha
  obtain ⟨i', hi', heq⟩ := mem_linearAddrs.1 ha'
  exact stackItems_apart _ _ hjk hj hk hi hi' heq

/-- A byte outside the items is the same. -/
theorem State.enterMem_other {a : Nat} (ha : ∀ i < k, a ∉ s.enterAddrs i) :
    memByte (s.enterMem l k) a = memByte s.mem a := by
  induction k with
  | zero => rfl
  | succ k ih =>
    rw [State.enterMem, memByte_memSetBytes_other _ _ _ (ha k (Nat.lt_succ_self k))]
    exact ih fun i hi => ha i (Nat.lt_succ_of_lt hi)

/-- Once pushed, an item stays where it is while the others are pushed. -/
theorem State.enterMem_item (hwf : s.mem.wf = true) (hjk : j < k) (hk : k ≤ 32) :
    memBytes (s.enterMem l k) (s.enterAddrs j) =
      leBytes s.opSize.bytes (s.enterItem l j (s.enterMem l j)).toNat := by
  induction k with
  | zero => omega
  | succ k ih =>
    obtain hlt | rfl : j < k ∨ j = k := by omega
    · rw [← ih hlt (by omega)]
      refine List.map_congr_left fun a ha => memByte_memSetBytes_other _ _ _ ?_
      exact State.enterAddrs_disjoint (by omega) (by omega) (by omega) ha
    · have hn : s.opSize.bytes ≤ 2 ^ 32 := by cases s.opSize <;> decide
      exact memBytes_memSetBytes_same (State.enterMem_wf hwf) _ _ (linearAddrs_nodup _ hn)
        (by simp [State.enterAddrs])

end FrameItems

/-! ### The run of ENTER -/

section EnterRun

variable {s u : State} {b sp off : BitVec 32} {m : Memory} {l j k : Nat} {locals : BitVec 16}

/-- The state with the frame pointer and the stack pointer set, each by its own size. -/
def State.withFrame (s : State) (bp sp : BitVec 32) : State := (s.setEReg s.opSize .ebp bp).setEReg s.stackSize .esp sp

/-- In `u` ENTER has set the two pointers and memory, and has changed nothing else. -/
structure EnterAt (s u : State) (bp sp : BitVec 32) (m : Memory) : Prop where
  gpr : u.gpr = (s.withFrame bp sp).gpr
  flags : u.flags = s.flags
  kept : Kept s u
  mem : u.mem = m

/-- Nothing is pushed yet, whatever memory is. -/
theorem EnterAt.start (s : State) (m : Memory) :
    EnterAt s { s with mem := m } (s.eReg s.opSize .ebp) (s.eReg s.stackSize .esp) m where
  gpr := by
    have hbp : (s.setEReg s.opSize .ebp (s.eReg s.opSize .ebp)).gpr = s.gpr := State.setEReg_eReg_gpr
    rw [State.withFrame, State.setEReg_gpr, hbp]
    exact (State.setEReg_eReg_gpr (s := s)).symm
  flags := rfl
  kept := ⟨rfl, rfl, rfl, rfl, rfl, rfl, rfl⟩
  mem := rfl

namespace EnterAt

theorem setBp (h : EnterAt s u b sp m) (b' : BitVec 32) : EnterAt s (u.setEReg s.opSize .ebp b') b' sp m where
  gpr := by
    simp only [State.setEReg_gpr, h.gpr, State.withFrame, Gpr.write_esp_ebp, Gpr.write_write]
  flags := h.flags
  kept := h.kept
  mem := h.mem

theorem setSp (h : EnterAt s u b sp m) (sp' : BitVec 32) : EnterAt s (u.setEReg s.stackSize .esp sp') b sp' m where
  gpr := by
    simp only [State.setEReg_gpr, h.gpr, State.withFrame, Gpr.write_write]
  flags := h.flags
  kept := h.kept
  mem := h.mem

theorem segs (h : EnterAt s u b sp m) : u.segs = s.segs := by
  obtain ⟨-, hsegs, -⟩ := h.kept
  exact hsegs

theorem ctrl (h : EnterAt s u b sp m) : u.ctrl = s.ctrl := by
  obtain ⟨-, -, -, hctrl, -⟩ := h.kept
  exact hctrl

theorem stackSize (h : EnterAt s u b sp m) : u.stackSize = s.stackSize := by
  simp only [State.stackSize, State.protectedMode, h.segs, h.ctrl, h.flags]

theorem eReg_esp (h : EnterAt s u b sp m) : u.eReg s.stackSize .esp = truncSize s.stackSize sp := by
  rw [← State.eReg_setEReg (s := s.setEReg s.opSize .ebp b) (r := .esp)]
  exact congrArg (fun g : Gpr => (g.read s.stackSize.width .esp).setWidth 32) h.gpr

theorem eReg_ebp (h : EnterAt s u b sp m) : u.eReg s.opSize .ebp = truncSize s.opSize b := by
  rw [← State.eReg_setEReg (s := s.setEReg s.stackSize .esp sp) (r := .ebp), State.eReg, State.eReg, State.reg,
    State.reg, h.gpr]
  simp only [State.withFrame, State.setEReg_gpr, Gpr.write_esp_ebp]

theorem memRead (h : EnterAt s u b sp m) (hpg : s.ctrl.cr0.pg = false)
    (hacc : s.accessOk .ss off s.opSize.bytes false = true) :
    u.memRead .ss s.opSize.width off =
      .ok (BitVec.ofNat _ (leNat (memBytes m (linearAddrs s.opSize.bytes (s.linear .ss off))))) := by
  have hacc' : u.accessOk .ss off s.opSize.width.bytes false = true := by
    rwa [State.accessOk_congr h.segs h.ctrl (by rw [h.flags]), Size.width_bytes]
  rw [State.memRead_pagingOff (by rw [h.ctrl, hpg]) hacc', State.linear_congr h.segs, h.mem, Size.width_bytes]

/-- A push that the stack segment allows stores its item below the others. -/
theorem push (h : EnterAt s u b (s.pushOffset (k * s.opSize.bytes)) m) (hpg : s.ctrl.cr0.pg = false)
    (hacc : s.accessOk .ss (s.enterOffset k) s.opSize.bytes true = true) (v : BitVec 32) :
    ∃ t, u.push s.opSize v = .ok t ∧ EnterAt s t b (s.pushOffset ((k + 1) * s.opSize.bytes))
      (memSetBytes m (s.enterAddrs k) (leBytes s.opSize.bytes (v.setWidth s.opSize.width.bits).toNat)) := by
  have hoff : u.pushOffset s.opSize.bytes = s.enterOffset k := by
    have hsum : BitVec.ofNat 32 (k * s.opSize.bytes) + BitVec.ofNat 32 s.opSize.bytes =
        BitVec.ofNat 32 ((k + 1) * s.opSize.bytes) := by
      rw [← BitVec.ofNat_add, Nat.succ_mul]
    rw [State.pushOffset, h.stackSize, h.eReg_esp, State.enterOffset, State.pushOffset, State.pushOffset,
      truncSize_truncSize_sub, truncSize_truncSize_sub, BitVec.sub_sub, hsum]
  have hacc' : u.accessOk .ss (s.enterOffset k) s.opSize.width.bytes true = true := by
    rwa [State.accessOk_congr h.segs h.ctrl (by rw [h.flags]), Size.width_bytes]
  have hwrite := State.memWrite_of (v.setWidth s.opSize.width.bits) hacc'
    (State.physAddrs_pagingOff (by rw [h.ctrl, hpg]) _ _ _ _)
  rw [State.linear_congr h.segs, h.mem, Size.width_bytes] at hwrite
  have hstored : EnterAt s { u.noteStores s.opSize.bytes (s.linear .ss (s.enterOffset k)) with
      mem := memSetBytes m (s.enterAddrs k) (leBytes s.opSize.bytes (v.setWidth s.opSize.width.bits).toNat) } b
      (s.pushOffset (k * s.opSize.bytes)) _ :=
    ⟨by simp [h.gpr], by simp [h.flags],
      h.kept.trans ⟨by simp, by simp, by simp, by simp, by simp, by simp, State.noteStores_seq _ _ _⟩, rfl⟩
  exact ⟨_, by rw [State.push, hoff, hwrite, h.stackSize]; rfl, hstored.setSp _⟩

end EnterAt

variable (hpg : s.ctrl.cr0.pg = false) (hitems : ∀ k ≤ l, s.accessOk .ss (s.enterOffset k) s.opSize.bytes true = true)
  (houter : ∀ k, 1 ≤ k → k < l → s.accessOk .ss (s.enterOuter k) s.opSize.bytes false = true)

include hpg hitems

/-- The `k`-th item pushed where the ones before it are. -/
theorem EnterAt.pushItem (h : EnterAt s u b (s.pushOffset (k * s.opSize.bytes)) (s.enterMem l k)) (hk : k ≤ l)
    {v : BitVec 32} (hv : v.setWidth s.opSize.width.bits = s.enterItem l k (s.enterMem l k)) :
    ∃ t, u.push s.opSize v = .ok t ∧
      EnterAt s t b (s.pushOffset ((k + 1) * s.opSize.bytes)) (s.enterMem l (k + 1)) := by
  obtain ⟨t, ht, hat⟩ := h.push hpg (hitems k hk) v
  exact ⟨t, ht, by rwa [hv] at hat⟩

include houter

/-- ENTER's loop pushes the items of the outer display from the `k + 1`-st to the `k + n`-th. -/
theorem EnterAt.enterCopy (n : Nat)
    (h : EnterAt s u b (s.pushOffset ((k + 1) * s.opSize.bytes)) (s.enterMem l (k + 1)))
    (hb : truncSize s.opSize b = s.enterOuter k) (hn : n = 0 ∨ k + n < l) :
    ∃ t b', State.enterCopy s.opSize n u = .ok t ∧
      EnterAt s t b' (s.pushOffset ((k + n + 1) * s.opSize.bytes)) (s.enterMem l (k + n + 1)) := by
  induction n generalizing u b k with
  | zero => exact ⟨u, b, rfl, h⟩
  | succ n ih =>
    have hk : k + 1 < l := by omega
    have hread := (h.setBp (u.eReg s.opSize .ebp - BitVec.ofNat 32 s.opSize.bytes)).memRead hpg
      (houter (k + 1) (by omega) hk)
    have hbp : truncSize s.opSize (u.eReg s.opSize .ebp - BitVec.ofNat 32 s.opSize.bytes) = s.enterOuter (k + 1) := by
      rw [h.eReg_ebp, hb, State.enterOuter_eq, State.enterOuter_eq, truncSize_truncSize_sub, BitVec.sub_sub,
        ← BitVec.ofNat_add, Nat.succ_mul]
    obtain ⟨t, ht, hat⟩ := (h.setBp (u.eReg s.opSize .ebp - BitVec.ofNat 32 s.opSize.bytes)).pushItem hpg hitems
      hk.le ((Size.setWidth_setWidth _ _).trans (by rw [State.enterItem, if_neg k.succ_ne_zero, if_pos hk]))
    obtain ⟨t', b', ht', hat'⟩ := ih hat hbp (by omega)
    refine ⟨t', b', ?_, by rwa [Nat.add_right_comm k 1 n] at hat'⟩
    simp only [State.enterCopy, State.eReg_setEReg, hbp, hread, ht, ht']

/-- The display of level `l` pushed above the old frame pointer. -/
theorem EnterAt.enterDisplay
    (h : EnterAt s u b (s.pushOffset s.opSize.bytes) (s.enterMem l 1)) (hb : truncSize s.opSize b = s.enterOuter 0) :
    ∃ t b', u.enterDisplay s.opSize (s.pushOffset s.opSize.bytes) l = .ok t ∧
      EnterAt s t b' (s.pushOffset ((l + 1) * s.opSize.bytes)) (s.enterMem l (l + 1)) := by
  rw [State.enterDisplay]
  cases l with
  | zero => exact ⟨u, b, rfl, by rwa [Nat.zero_add, Nat.one_mul]⟩
  | succ n =>
    rw [← Nat.one_mul s.opSize.bytes] at h
    obtain ⟨t, b', ht, hat⟩ := EnterAt.enterCopy hpg hitems houter (k := 0) n h hb (by omega)
    rw [Nat.zero_add] at hat
    obtain ⟨t', ht', hat'⟩ := hat.pushItem hpg hitems le_rfl (v := s.pushOffset s.opSize.bytes)
      (by simp [State.enterItem])
    exact ⟨t', b', by simp [ht, ht'], hat'⟩

/-- ENTER whose items fit pushes them all and sets both pointers. -/
theorem State.enterPush_of : ∃ t, s.enterPush locals l = .ok t ∧
    EnterAt s t (s.pushOffset s.opSize.bytes) (s.enterTop locals l) (s.enterMem l (l + 1)) := by
  have hstart : EnterAt s s (s.eReg s.opSize .ebp) (s.pushOffset (0 * s.opSize.bytes)) (s.enterMem l 0) := by
    have hsp : s.pushOffset (0 * s.opSize.bytes) = s.eReg s.stackSize .esp := by
      rw [Nat.zero_mul, State.pushOffset, BitVec.sub_zero, truncSize_eReg]
    rw [hsp]
    exact EnterAt.start s s.mem
  obtain ⟨t, ht, hat⟩ := hstart.pushItem hpg hitems l.zero_le (v := s.gpr.ebp)
    (by rw [State.enterItem, if_pos rfl, State.reg_eq_setWidth]; rfl)
  rw [Nat.zero_add, Nat.one_mul] at hat
  have hframe : t.eReg t.stackSize .esp = s.pushOffset s.opSize.bytes := by
    rw [hat.stackSize, hat.eReg_esp, State.pushOffset]
    exact truncSize_truncSize _
  obtain ⟨u, b, hu, hau⟩ := hat.enterDisplay hpg hitems houter (by
    rw [State.enterOuter_eq, Nat.zero_mul, BitVec.sub_zero])
  exact ⟨_, by simp only [State.enterPush, ht, hframe, hu], (hau.setBp _).setSp _⟩

end EnterRun

/-! ### The check of ENTER -/

section EnterCheck

variable {s : State} {l : Nat} {locals : BitVec 16} {level : BitVec 8}

/-- The stack pointer that ENTER ends with, cut to its size once (R270). -/
theorem State.enterTop_eq : s.enterTop locals l = truncSize s.stackSize
    (s.eReg s.stackSize .esp - BitVec.ofNat 32 ((l + 1) * s.opSize.bytes) - locals.setWidth 32) := by
  rw [State.enterTop, State.pushOffset, truncSize_truncSize_sub]

/-- The whole check of ENTER passes exactly where each item lies in the stack segment and straddles no stack top, and in
Protected Mode the final stack pointer lies in it too. -/
theorem State.enterCheck_ok {x : Unit} : s.enterCheck locals l = .ok x ↔
    (∀ k ≤ l, s.accessOk .ss (s.enterOffset k) s.opSize.bytes true = true) ∧
      (s.protectedMode = false → ∀ k ≤ l, (s.enterOffset k).toNat + s.opSize.bytes ≤ 2 ^ 16) ∧
      (s.protectedMode = true → s.segs.ss.inLimit (s.enterTop locals l).toNat 1 = true) := by
  have hcheck : s.enterCheck locals l = .ok x ↔ s.pushChecks s.opSize (l + 1) = .ok () ∧
      (!s.protectedMode || s.segs.ss.inLimit (s.enterTop locals l).toNat 1) = true := by
    unfold State.enterCheck
    split
    · next e he => simp [he]
    · next he => rw [he, need_ok]; simp
  have hwraps (k : Nat) : s.pushWraps s.opSize (k + 1) = false ↔
      (s.protectedMode = false → (s.enterOffset k).toNat + s.opSize.bytes ≤ 2 ^ 16) := by
    simp [State.pushWraps, State.enterOffset]
  rw [hcheck, State.pushChecks_ok]
  constructor
  · rintro ⟨hall, htop⟩
    have hitem (k : Nat) (hk : k ≤ l) := hall (k + 1) (by omega) (by omega)
    exact ⟨fun k hk => (hitem k hk).2, fun hp k hk => (hwraps k).1 (hitem k hk).1 hp, fun hp => by simpa [hp] using htop⟩
  · rintro ⟨hitems, hwrap, htop⟩
    refine ⟨fun k hk hl => ?_, by simpa [← Bool.not_eq_true, ← imp_iff_not_or] using htop⟩
    obtain ⟨k, rfl⟩ := Nat.exists_eq_add_of_le' hk
    exact ⟨(hwraps k).2 fun hp => hwrap hp k (by omega), hitems k (by omega)⟩

theorem need_cases (c : Bool) (e : Exc) : need c e = .ok () ∨ need c e = raise e := by
  cases c with
  | true => exact .inl rfl
  | false => exact .inr rfl

/-- In Protected Mode the check of pushed items passes or is #SS(0). -/
theorem State.pushChecks_protected (hp : s.protectedMode = true) (z : Size) (k : Nat) :
    s.pushChecks z k = .ok () ∨ s.pushChecks z k = raise (excSS 0) := by
  induction k with
  | zero => exact .inl rfl
  | succ k ih =>
    obtain h | h := ih
    · have hcheck : s.pushCheck z (k + 1) =
          need (s.accessOk .ss (s.pushOffset ((k + 1) * z.bytes)) z.bytes true) (excSS 0) := by
        simp [State.pushCheck, State.pushWraps, State.accessExc, hp]
      rw [State.pushChecks, h, hcheck]
      exact need_cases _ _
    · rw [State.pushChecks, h]
      exact .inr rfl

/-- In Protected Mode the whole check of ENTER passes or is #SS(0). -/
theorem State.enterCheck_protected (hp : s.protectedMode = true) :
    s.enterCheck locals l = .ok () ∨ s.enterCheck locals l = raise (excSS 0) := by
  obtain h | h := State.pushChecks_protected hp s.opSize (l + 1)
  · rw [State.enterCheck, h]
    exact need_cases _ _
  · rw [State.enterCheck, h]
    exact .inr rfl

theorem State.enterFrame_of_check (h : s.enterCheck locals (level.toNat % 32) = .ok ()) :
    s.enterFrame locals level = s.enterPush locals (level.toNat % 32) := by
  rw [State.enterFrame, h]

/-- In Protected Mode ENTER whose frame does not fit is #SS(0). -/
theorem State.enterFrame_raise (hp : s.protectedMode = true)
    (h : (∃ k ≤ level.toNat % 32, s.accessOk .ss (s.enterOffset k) s.opSize.bytes true = false) ∨
      s.segs.ss.inLimit (s.enterTop locals (level.toNat % 32)).toNat 1 = false) :
    s.enterFrame locals level = raise (excSS 0) := by
  obtain hok | hraise := State.enterCheck_protected (locals := locals) (l := level.toNat % 32) hp
  · obtain ⟨hitems, -, htop⟩ := State.enterCheck_ok.1 hok
    obtain ⟨k, hk, hout⟩ | hout := h
    · simp [hitems k hk] at hout
    · simp [htop hp] at hout
  · rw [State.enterFrame, hraise]
    rfl

end EnterCheck

/-! ### The frame in memory, and LEAVE -/

section EnterMemory

variable {s t : State} {b sp : BitVec 32} {m : Memory} {l k : Nat}

/-- With paging off each item is stored at its own offset. -/
theorem State.enterMem_storesAt (hpg : s.ctrl.cr0.pg = false) :
    StoresAt { s with mem := s.enterMem l k } { s with mem := s.enterMem l (k + 1) } .ss s.opSize.width
      (s.enterOffset k) (s.enterItem l k (s.enterMem l k)) := by
  refine ⟨s.enterAddrs k, ?_, ?_, fun a ha => memByte_memSetBytes_other _ _ _ ha⟩
  · rw [Size.width_bytes]
    exact State.physAddrs_pagingOff (s := { s with mem := s.enterMem l k }) hpg _ _ _ _
  · rw [Size.width_bytes]
    rfl

/-- An item of the outer display is what stands there when it is pushed (R270). -/
theorem State.enterItem_outer (hpg : s.ctrl.cr0.pg = false)
    (hacc : s.accessOk .ss (s.enterOuter k) s.opSize.bytes false = true) (hk : 1 ≤ k) (hkl : k < l) :
    { s with mem := m }.memRead .ss s.opSize.width (s.enterOuter k) = .ok (s.enterItem l k m) := by
  rw [State.enterItem, if_neg (by omega), if_pos hkl]
  exact (EnterAt.start s m).memRead hpg hacc

/-- Every item is read back from the finished frame. -/
theorem EnterAt.memRead_item (h : EnterAt s t b sp (s.enterMem l (l + 1))) (hpg : s.ctrl.cr0.pg = false)
    (hwf : s.mem.wf = true) (hl : l < 32) (hkl : k ≤ l)
    (hacc : s.accessOk .ss (s.enterOffset k) s.opSize.bytes true = true) :
    t.memRead .ss s.opSize.width (s.enterOffset k) = .ok (s.enterItem l k (s.enterMem l k)) := by
  have hbytes := State.enterMem_item (l := l) hwf (Nat.lt_succ_of_le hkl) hl
  rw [h.memRead hpg (State.accessOk_read_of_write hacc), ← State.enterAddrs, hbytes, ← Size.width_bytes,
    ofNat_leNat_leBytes]

/-- LEAVE pops the old frame pointer from where the frame pointer addresses (R333). -/
theorem State.leaveFrame_of {v : BitVec s.opSize.width.bits}
    (h : s.memRead .ss s.opSize.width (s.eReg s.stackSize .ebp) = .ok v) :
    s.leaveFrame = .ok (((s.setEReg s.stackSize .esp (s.eReg s.stackSize .ebp)).dropStack
      (BitVec.ofNat 32 s.opSize.bytes)).setEReg s.opSize .ebp (v.setWidth 32)) := by
  have htop : addOffset s.stackSize ((s.setEReg s.stackSize .esp (s.eReg s.stackSize .ebp)).eReg s.stackSize .esp)
      (BitVec.ofNat 32 0) = s.eReg s.stackSize .ebp := by
    rw [State.eReg_setEReg, truncSize_eReg, addOffset, BitVec.add_zero, truncSize_eReg]
  have hitem : (s.setEReg s.stackSize .esp (s.eReg s.stackSize .ebp)).stackItem s.opSize 0 = .ok (v.setWidth 32) := by
    rw [State.stackItem, State.setEReg_memRead, State.setEReg_stackSize, htop, h]
  rw [State.leaveFrame, State.pop, hitem]

end EnterMemory

/-- Settles O23. ENTER whose items fit passes its check (`State.enterCheck_ok`) and runs to the end
(`State.enterPush_of`); the memory before item `k` is `State.enterMem`, and as the items share no byte each is read back
(`EnterAt.memRead_item`). -/
theorem enterAndLeaveMoveTheFrame : Obligations.EnterAndLeaveMoveTheFrame := by
  refine fun s hs => ⟨fun locals level => ⟨fun hpg hitems hwrap houter htop => ?_, fun hp hbad => ?_⟩, fun v hv => ?_⟩
  · rw [← State.enterTop_eq] at htop ⊢
    have hl : level.toNat % 32 < 32 := Nat.mod_lt _ (by decide)
    have hcheck := (State.enterCheck_ok (x := ())).2 ⟨hitems, hwrap, htop⟩
    obtain ⟨t, ht, hat⟩ := State.enterPush_of (locals := locals) hpg hitems houter
    refine ⟨t, s.enterMem (level.toNat % 32),
      (exec_enter s locals level).trans (perform_plain hs ((State.enterFrame_of_check hcheck).trans ht)), hat.gpr,
      hat.flags, hat.kept, rfl, hat.mem.symm, fun k hk => ?_, fun a ha => ?_⟩
    · refine ⟨s.enterItem _ k (s.enterMem _ k), State.enterMem_storesAt hpg, fun h0 => if_pos h0,
        fun hk1 hkl => State.enterItem_outer hpg (houter k hk1 hkl) hk1 hkl, fun hk1 hkl => ?_,
        fun hwf => hat.memRead_item hpg hwf hl hk (hitems k hk)⟩
      rw [State.enterItem, if_neg (by omega), if_neg (by omega)]
    · rw [hat.mem]
      refine State.enterMem_other fun k hk hin => ?_
      obtain ⟨j, hj, hin⟩ := mem_linearAddrs.1 hin
      exact ha k (Nat.le_of_lt_succ hk) j hj hin
  · rw [← State.enterTop_eq] at hbad
    exact (exec_enter s locals level).trans (perform_plain_raise hs (State.enterFrame_raise hp hbad))
  · exact (exec_leave s).trans (perform_plain hs (State.leaveFrame_of hv))

end Sys2Proof.Machine

/-! PROOFS. O34 to O40: taking events and returning from them. The modes and a list of pushed items come first, then the
checks of gates and of stack segments, then each entry, the call to an inner level and each return. -/

namespace Sys2Proof.Machine

/-! ### Modes and levels -/

section Modes

variable {s u : State} {sel : BitVec 16} {l : BitVec 2}

theorem State.protectedMode_iff : s.protectedMode = true ↔ s.ctrl.cr0.pe = true ∧ s.flags.vm = false := by
  simp [State.protectedMode]

theorem State.v86Mode_iff : s.v86Mode = true ↔ s.ctrl.cr0.pe = true ∧ s.flags.vm = true := by
  simp [State.v86Mode]

theorem State.protectedMode_of_real (hr : s.realMode = true) : s.protectedMode = false := by
  have hpe : s.ctrl.cr0.pe = false := by simpa [State.realMode] using hr
  simp [State.protectedMode, hpe]

theorem State.not_realMode (hpe : s.ctrl.cr0.pe = true) : ¬ s.realMode = true := by
  simp [State.realMode, hpe]

theorem State.not_v86Mode (hp : s.protectedMode = true) : ¬ s.v86Mode = true := by
  simp [State.v86Mode, (State.protectedMode_iff.1 hp).2]

theorem State.protectedMode_congr (hctrl : u.ctrl = s.ctrl) (hvm : u.flags.vm = s.flags.vm) :
    u.protectedMode = s.protectedMode := by
  simp [State.protectedMode, hctrl, hvm]

theorem rpl_withRpl : rpl (withRpl sel l) = l := BitVec.extractLsb'_append_eq_right

/-- In Protected Mode CPL is what the selector of CS says (R39). -/
theorem State.cpl_protected (hp : s.protectedMode = true) : s.cpl = rpl s.segs.cs.sel := by
  rw [State.cpl, if_neg (State.not_realMode (State.protectedMode_iff.1 hp).1), if_neg (State.not_v86Mode hp)]

theorem State.cpl_of_withRpl (hp : s.protectedMode = true) (hcs : s.segs.cs.sel = withRpl sel l) : s.cpl = l := by
  rw [State.cpl_protected hp, hcs, rpl_withRpl]

theorem State.cpl_v86 (hv : s.v86Mode = true) : s.cpl = 3 := by
  rw [State.cpl, if_neg (State.not_realMode (State.v86Mode_iff.1 hv).1), if_pos hv]

end Modes

/-! ### Pushed items -/

/-- With paging off a push that the stack segment allows stores its item below the top of the stack (R5). -/
theorem State.push_of {s : State} {z : Size} (hpg : s.ctrl.cr0.pg = false)
    (hacc : s.accessOk .ss (s.pushOffset z.bytes) z.bytes true = true) (v : BitVec 32) :
    ∃ t, s.push z v = .ok t ∧ Claims.Pushed s t z (v.setWidth _) := by
  have haddrs := State.physAddrs_pagingOff hpg .write s.user z.width.bytes (s.linear .ss (s.pushOffset z.bytes))
  obtain ⟨u, hu⟩ : ∃ u, s.memWrite .ss z.width (s.pushOffset z.bytes) (v.setWidth _) = .ok u :=
    ⟨_, State.memWrite_of _ (by rwa [Size.width_bytes]) haddrs⟩
  obtain ⟨-, hstored⟩ := State.memWrite_pagingOff hpg hu
  refine ⟨u.setEReg s.stackSize .esp (s.pushOffset z.bytes), by rw [State.push, hu],
    ⟨_, haddrs, by simp [hstored], fun a ha => ?_⟩, by simp [hstored], by simp [hstored], ?_⟩
  · simpa [hstored] using memByte_memSetBytes_other _ _ _ ha
  · rw [hstored]
    exact ⟨by simp, by simp, by simp, by simp, by simp, by simp, State.noteStores_seq _ _ _⟩

/-- Pushes an item: a doubleword, or a word padded to the item's size. -/
def State.pushItem (s : State) (z : Size) : Claims.Item → Res State
  | .low x => s.push z x
  | .word x => s.pushWord z x

/-- Pushes items in order, each at the same size. -/
def State.pushItems (z : Size) : List Claims.Item → State → Res State
  | [], s => .ok s
  | p :: l, s => s.pushItem z p >>= State.pushItems z l

end Sys2Proof.Machine

namespace Sys2Proof.Claims

open Sys2Proof.Machine

section PushedItems

variable {s t : State} {z : Size} {v : BitVec z.width.bits} {n k : Nat}

/-- A free value taken first does not show in what a push does. -/
theorem Pushed.of_draws (h : Pushed { s with draws := n } t z v) : Pushed s t z v := by
  obtain ⟨⟨ps, hps, hmem⟩, hrest⟩ := h
  exact ⟨⟨ps, (State.physAddrs_congr (s := { s with draws := n }) (u := s) rfl rfl _ _ _ _).trans hps, hmem⟩, hrest⟩

theorem Pushed.kept (h : Pushed s t z v) : Kept s t := by
  obtain ⟨-, -, -, hkept⟩ := h
  exact hkept

theorem Pushed.flags_eq (h : Pushed s t z v) : t.flags = s.flags := by
  obtain ⟨-, -, hflags, -⟩ := h
  exact hflags

/-- The item after a pushed one goes below it. -/
theorem Pushed.pushOffset_eq (h : Pushed s t z v) : t.pushOffset n = s.pushOffset (z.bytes + n) := by
  obtain ⟨-, hgpr, hflags, -, hsegs, -, hctrl, -⟩ := h
  have hsize : t.stackSize = s.stackSize := by simp only [State.stackSize, State.protectedMode, hsegs, hctrl, hflags]
  have hesp : t.eReg s.stackSize .esp = truncSize s.stackSize (s.pushOffset z.bytes) := by
    rw [← State.eReg_setEReg (s := s) (r := .esp), State.eReg, State.eReg, State.reg, State.reg, hgpr]
  rw [State.pushOffset, hsize, hesp, State.pushOffset, State.pushOffset, truncSize_truncSize, truncSize_truncSize_sub,
    BitVec.sub_sub, ← BitVec.ofNat_add]

/-- After a pushed item there is room for one item less. -/
theorem Pushed.room (h : Pushed s t z v) (hroom : Room s z.bytes (k + 1)) : Room t z.bytes k := by
  intro j hj hjk
  have hnext := hroom (j + 1) (Nat.le_add_left 1 j) (by omega)
  obtain ⟨-, -, hflags, -, hsegs, -, hctrl, -⟩ := id h
  rwa [State.accessOk_congr hsegs hctrl (by rw [hflags]), h.pushOffset_eq, Nat.add_comm, ← Nat.mul_succ]

theorem Room.first (h : Room s n (k + 1)) : s.accessOk .ss (s.pushOffset n) n true = true := by
  simpa using h 1 le_rfl (Nat.le_add_left 1 k)

theorem PushedAll.kept {l : List Item} (h : PushedAll z l s t) : Kept s t ∧ t.flags = s.flags := by
  induction l generalizing s with
  | nil =>
    cases h
    exact ⟨⟨rfl, rfl, rfl, rfl, rfl, rfl, rfl⟩, rfl⟩
  | cons p l ih =>
    obtain ⟨u, v, -, hpushed, hall⟩ := h
    obtain ⟨hkept, hflags⟩ := ih hall
    exact ⟨hpushed.kept.trans hkept, hflags.trans hpushed.flags_eq⟩

theorem Copied.kept {u : State} (h : Copied s z n t u) : Kept t u ∧ u.flags = t.flags := by
  induction n generalizing t with
  | zero =>
    cases h
    exact ⟨⟨rfl, rfl, rfl, rfl, rfl, rfl, rfl⟩, rfl⟩
  | succ n ih =>
    obtain ⟨x, y, -, hpushed, hcopied⟩ := h
    obtain ⟨hkept, hflags⟩ := ih hcopied
    exact ⟨hpushed.kept.trans hkept, hflags.trans hpushed.flags_eq⟩

end PushedItems

theorem GateFor.offset_le {s : State} {e : Event} {g d : Desc} (h : GateFor s e g d) : g.gateOffset ≤ d.limit := by
  obtain ⟨-, -, -, -, -, -, -, -, -, -, hoff⟩ := h
  exact hoff

theorem CallGateFor.offset_le {s : State} {sel : BitVec 16} {g d : Desc} (h : CallGateFor s sel g d) :
    g.gateOffset ≤ d.limit := by
  obtain ⟨-, -, -, -, -, -, -, -, -, -, -, hoff⟩ := h
  exact hoff

theorem InnerStack.tssStack_eq {s : State} {level : BitVec 2} {ext sel : BitVec 16} {sp : BitVec 32} {w : Desc}
    (h : InnerStack s level ext sel sp w) : s.tssStack level ext = .ok (sel, sp) := by
  obtain ⟨htss, -⟩ := h
  exact htss

end Sys2Proof.Claims

namespace Sys2Proof.Machine

open Claims (Item Pushed PushedAll Room Copied codeItem Raises SoftInt GateFor InnerStack CallGateFor FarCall gateFlags
  jumped Frame ReturnsTo StackFor StaysValid Outer returned returnedFlags)

section PushedItems

variable {s : State} {z : Size} {k : Nat} {l : List Item}

theorem setWidth_append_low (a b : BitVec 16) : (a ++ b).setWidth 16 = b :=
  (BitVec.setWidth_eq_extractLsb' (by decide)).trans BitVec.extractLsb'_append_eq_right

/-- With paging off an item that the stack segment allows is pushed; a word has anything above it. -/
theorem State.pushItem_of (hpg : s.ctrl.cr0.pg = false)
    (hacc : s.accessOk .ss (s.pushOffset z.bytes) z.bytes true = true) (p : Item) :
    ∃ t v, s.pushItem z p = .ok t ∧ p.Is v ∧ Pushed s t z v := by
  cases p with
  | low x =>
    obtain ⟨t, ht, hpushed⟩ := State.push_of hpg hacc x
    exact ⟨t, _, ht, rfl, hpushed⟩
  | word x =>
    cases z with
    | s16 =>
      obtain ⟨t, ht, hpushed⟩ := State.push_of hpg hacc (x.setWidth 32)
      exact ⟨t, _, ht, by simp [Item.Is, Size.width], hpushed⟩
    | s32 =>
      obtain ⟨t, ht, hpushed⟩ := State.push_of (s := s.draw.2) hpg hacc (s.draw.1.extractLsb' 16 16 ++ x)
      exact ⟨t, _, ht, by simpa [Item.Is, Size.width] using setWidth_append_low _ x, Pushed.of_draws hpushed⟩

/-- With paging off items that fit are pushed, and the room beyond them is left. -/
theorem State.pushItems_of {n : Nat} (hroom : Room s z.bytes n) (hpg : s.ctrl.cr0.pg = false)
    (hn : l.length + k = n) : ∃ t, State.pushItems z l s = .ok t ∧ PushedAll z l s t ∧ Room t z.bytes k := by
  induction l generalizing s n with
  | nil => exact ⟨s, rfl, rfl, by simpa [← hn] using hroom⟩
  | cons p l ih =>
    rw [List.length_cons, Nat.add_right_comm] at hn
    rw [← hn] at hroom
    obtain ⟨u, v, hu, hp, hpushed⟩ := State.pushItem_of hpg hroom.first p
    obtain ⟨-, -, -, hctrl, -⟩ := hpushed.kept
    obtain ⟨t, ht, hall, hrest⟩ := ih (hpushed.room hroom) (by rw [hctrl, hpg]) rfl
    exact ⟨t, by rw [State.pushItems, hu]; exact ht, ⟨u, v, hp, hpushed, hall⟩, hrest⟩

theorem State.pushCode_eq (e : Event) : s.pushCode z e = State.pushItems z (codeItem e) s := by
  rw [State.pushCode, codeItem]
  cases e.code with
  | none => rfl
  | some c => exact (bind_pure (s.pushWord z c)).symm

@[simp] theorem codeItem_length (e : Event) : (codeItem e).length = e.codeItems := by
  rw [codeItem, Event.codeItems]
  cases e.code <;> rfl

end PushedItems

/-! ### Gates and stack segments whose checks pass -/

section Checks

variable {s : State} {e : Event} {g d w : Desc} {sel : BitVec 16} {sp : BitVec 32} {level : BitVec 2} {ext : BitVec 16}

theorem Res.bind_of {α β : Type} {x : Res α} {a : α} (h : x = .ok a) (f : α → Res β) : (x >>= f) = f a := by
  rw [h]
  rfl

theorem not_isNull (h : sel &&& 0xFFFC ≠ 0) : (!isNull sel) = true := by
  simpa using mt isNull_iff.1 h

theorem SegReg.ipOk_of {cs : SegReg} {off : BitVec 32} (h : off ≤ cs.limit) : cs.ipOk off = true := decide_eq_true h

theorem State.checkNewStack_of (h : InnerStack s level ext sel sp w) (x : Exc) :
    s.checkNewStack sel level x ext = .ok (w.toSeg sel) := by
  obtain ⟨-, hnull, hw, hrpl, hdpl, hdata, hrw, hpresent⟩ := h
  rw [State.checkNewStack, need_bind _ (not_isNull hnull), Res.bind_of (State.descOf_of_some hw),
    need_bind _ (by simpa using hrpl), need_bind _ (by simpa using hdpl),
    need_bind _ (by simp [Desc.writableData, hdata, hrw]), need_bind _ hpresent]
  rfl

theorem Flags.enter_eq_gateFlags (f : Flags) (g : Desc) : f.enter g.isInterruptGate = gateFlags f g := by
  simp [Flags.enter, gateFlags, Desc.isInterruptGate, beq_eq_decide, Bool.and_comm]

theorem State.enter_of_gateFor (hpe : s.ctrl.cr0.pe = true) (h : GateFor s e g d) : s.enter e = s.enterGate e g := by
  obtain ⟨hidt, hgate, hsys, htyp, hsoft, hpresent, -⟩ := h
  have htyp5 : (g.typ == 5) = false := by
    rw [beq_eq_false_iff_ne]
    rintro h5
    rw [h5] at htyp
    exact absurd htyp (by decide)
  have hkind : g.isSys [5, 6, 7, 14, 15] = true := by
    simpa [Desc.isSys, hsys] using Or.inr htyp
  have hmay : (!e.software || decide (s.cpl ≤ g.dpl)) = true := by
    simpa [← Bool.not_eq_true, ← imp_iff_not_or] using hsoft
  rw [State.enter, if_neg (State.not_realMode hpe), State.enterProtected, need_bind _ (decide_eq_true hidt),
    Res.bind_of hgate, need_bind _ hkind, need_bind _ hmay, need_bind _ hpresent, if_neg (by simpa using htyp5)]

/-- The code segment that a gate names passes its checks, and its level decides between the entries (R293). -/
theorem State.enterGate_of_gateFor (h : GateFor s e g d) : s.enterGate e g =
    if !d.ce && decide (d.dpl < s.cpl) then
      if s.v86Mode then
        need (d.dpl == 0) (excGP (selCode g.gateSel ||| e.extBit)) >>= fun _ =>
        s.enterFromV86 e g (d.toSeg (withRpl g.gateSel 0))
      else s.enterInner e g (d.toSeg (withRpl g.gateSel d.dpl))
    else
      need (d.ce || d.dpl == s.cpl) (excGP (selCode g.gateSel ||| e.extBit)) >>= fun _ =>
      need (!s.v86Mode) (excGP (selCode g.gateSel ||| e.extBit)) >>= fun _ =>
      s.enterSame e g (d.toSeg (withRpl g.gateSel s.cpl)) := by
  obtain ⟨-, -, -, -, -, -, hsel, hd, hcode, hpresent, -⟩ := h
  rw [State.enterGate, need_bind _ (not_isNull hsel), Res.bind_of (State.descOf_of_some hd),
    need_bind _ hcode, need_bind _ hpresent]

theorem State.enter_same (hp : s.protectedMode = true) (h : GateFor s e g d) (hlevel : d.ce = true ∨ d.dpl = s.cpl) :
    s.enter e = s.enterSame e g (d.toSeg (withRpl g.gateSel s.cpl)) := by
  obtain ⟨hpe, -⟩ := State.protectedMode_iff.1 hp
  have houter : ¬ (!d.ce && decide (d.dpl < s.cpl)) = true := by
    obtain hce | hdpl := hlevel
    · simp [hce]
    · simp [hdpl, BitVec.lt_irrefl]
  rw [State.enter_of_gateFor hpe h, State.enterGate_of_gateFor h, if_neg houter, need_bind _ (by simpa using hlevel),
    need_bind _ (by simpa using State.not_v86Mode hp)]

theorem State.enter_inner (hp : s.protectedMode = true) (h : GateFor s e g d) (hce : d.ce = false)
    (hdpl : d.dpl < s.cpl) : s.enter e = s.enterInner e g (d.toSeg (withRpl g.gateSel d.dpl)) := by
  rw [State.enter_of_gateFor (State.protectedMode_iff.1 hp).1 h, State.enterGate_of_gateFor h,
    if_pos (by simp [hce, hdpl]), if_neg (State.not_v86Mode hp)]

theorem State.enter_v86 (hv : s.v86Mode = true) (h : GateFor s e g d) (hce : d.ce = false) (hdpl : d.dpl = 0) :
    s.enter e = s.enterFromV86 e g (d.toSeg (withRpl g.gateSel 0)) := by
  rw [State.enter_of_gateFor (State.v86Mode_iff.1 hv).1 h, State.enterGate_of_gateFor h,
    if_pos (by simp [hce, hdpl, State.cpl_v86 hv]), if_pos hv, need_bind _ (by simp [hdpl])]

end Checks

/-! ### Software interrupts -/

section SoftwareInterrupts

variable {s t : State} {i : Instr} {v : BitVec 8}

/-- A software interrupt takes its event (R290). -/
theorem exec_softInt (hs : s.plain) (h : SoftInt s i v) : exec i s = s.settle (s.enter (softEvent v)) := by
  obtain ⟨rfl, rfl⟩ | ⟨rfl, hio⟩ | ⟨rfl, rfl, hofl⟩ := h
  · exact (exec_int3 s).trans (perform_allowed (GroupRule.allows_plain _ hs))
  · have hmay : need (!(s.v86Mode && decide (s.flags.iopl < 3))) (excGP 0) = .ok () :=
      need_ok.2 (by simpa [-not_and, not_and_or] using hio)
    have hbody : s.intImm v = s.enter (softEvent v) := by rw [State.intImm, hmay]
    exact (exec_intN s v).trans ((perform_allowed (GroupRule.allows_plain _ hs)).trans (congrArg s.settle hbody))
  · exact (exec_into s).trans ((perform_allowed (GroupRule.allows_plain _ hs)).trans
      (congrArg s.settle (if_pos hofl)))

theorem exec_softInt_of_enter {e : Event} (ht : s.enter e = .ok t) (hs : s.plain) (h : SoftInt s i e.vec)
    (he : e = softEvent e.vec) : exec i s = .next t := by
  rw [exec_softInt hs h, ← he, ht]
  rfl

theorem exec_softInt_raise {x : Exc} (hx : s.enter (softEvent v) = raise x) (hs : s.plain) (h : SoftInt s i v) :
    Raises i s x := by
  rw [Raises, exec_softInt hs h, hx]
  rfl

end SoftwareInterrupts

/-! ### Entry through a gate -/

section GateEntry

variable {s : State} {e : Event} {g d w : Desc} {cs : SegReg} {sel : BitVec 16} {sp : BitVec 32}

/-- The frame of an interrupt: the flags, the code selector, the offset of the next instruction and the error code. -/
def State.frameItems (s : State) (e : Event) : List Item :=
  .low s.flags.image :: .word s.segs.cs.sel :: .low s.eip :: codeItem e

@[simp] theorem State.frameItems_length : (s.frameItems e).length = e.codeItems + 3 := by
  simp [State.frameItems]

/-- An entry at one level whose checks pass pushes the frame and goes to the gate's target (R296). -/
theorem State.enterSame_of (hpg : s.ctrl.cr0.pg = false)
    (hstack : s.segs.ss.stackRoom (s.eReg s.stackSize .esp) (g.gateSize.bytes * (3 + e.codeItems)) = true)
    (hroom : Room s g.gateSize.bytes (3 + e.codeItems)) (hoff : g.gateOffset ≤ cs.limit) :
    ∃ c, s.enterSame e g cs = .ok ({ c with flags := gateFlags s.flags g }.jumpFar cs g.gateOffset) ∧
      PushedAll g.gateSize (s.frameItems e) s c := by
  obtain ⟨c, hc, hall, -⟩ := State.pushItems_of (l := s.frameItems e) (k := 0) hroom hpg (by simp; omega)
  refine ⟨c, ?_, hall⟩
  rw [← Flags.enter_eq_gateFlags, State.enterSame, need_bind _ hstack, need_bind _ (SegReg.ipOk_of hoff)]
  have hrun := Res.bind_of hc fun c =>
    pure ({ c with flags := s.flags.enter g.isInterruptGate }.jumpFar cs g.gateOffset)
  simp only [State.frameItems, State.pushItems, State.pushItem, bind_assoc, ← State.pushCode_eq] at hrun
  exact hrun

/-- The state in which an entry to an inner level, or a call to it, begins to push: the new code segment and the stack
of that level (R294, R234). -/
def State.onInnerStack (s : State) (cs ss : SegReg) (sp : BitVec 32) : State := (s.setSeg .cs cs).loadStack ss sp

/-- The items of an entry to an inner level: the old stack pointer, then the frame (R294). -/
def State.innerItems (s : State) (e : Event) : List Item :=
  .word s.segs.ss.sel :: .low s.gpr.esp :: s.frameItems e

@[simp] theorem State.innerItems_length : (s.innerItems e).length = e.codeItems + 5 := by
  simp [State.innerItems]

/-- An entry to an inner level whose checks pass pushes its items on the stack of that level (R294). -/
theorem State.enterInner_of (hpg : s.ctrl.cr0.pg = false) (hinner : InnerStack s cs.dpl e.extBit sel sp w)
    (hstack : (w.toSeg sel).stackRoom sp (g.gateSize.bytes * (5 + e.codeItems)) = true)
    (hroom : Room (s.onInnerStack cs (w.toSeg sel) sp) g.gateSize.bytes (5 + e.codeItems))
    (hoff : g.gateOffset ≤ cs.limit) :
    ∃ c, s.enterInner e g cs = .ok ({ c with flags := gateFlags s.flags g }.jumpTo g.gateOffset) ∧
      PushedAll g.gateSize (s.innerItems e) (s.onInnerStack cs (w.toSeg sel) sp) c := by
  obtain ⟨c, hc, hall, -⟩ := State.pushItems_of (l := s.innerItems e) (k := 0) hroom hpg (by simp; omega)
  refine ⟨c, ?_, hall⟩
  rw [← Flags.enter_eq_gateFlags, State.enterInner, Res.bind_of hinner.tssStack_eq]
  dsimp only
  rw [Res.bind_of (State.checkNewStack_of hinner _), need_bind _ hstack, need_bind _ (SegReg.ipOk_of hoff)]
  have hrun := Res.bind_of hc fun c =>
    pure ({ c with flags := s.flags.enter g.isInterruptGate }.jumpTo g.gateOffset)
  simp only [State.innerItems, State.frameItems, State.pushItems, State.pushItem, bind_assoc,
    ← State.pushCode_eq] at hrun
  exact hrun

/-- The state in which an entry from V86 mode begins to push: Protected Mode at level 0 (R295). -/
def State.onLevel0 (s : State) (g : Desc) (cs ss : SegReg) (sp : BitVec 32) : State :=
  (({ s with flags := { gateFlags s.flags g with vm := false } }.setSeg .cs cs).setSeg .ss ss).setReg .d32 .esp sp

/-- The items of an entry from V86 mode: the four data segment registers, then those of an inner level (R295). -/
def State.v86Items (s : State) (e : Event) : List Item :=
  .word s.segs.gs.sel :: .word s.segs.fs.sel :: .word s.segs.ds.sel :: .word s.segs.es.sel :: s.innerItems e

@[simp] theorem State.v86Items_length : (s.v86Items e).length = e.codeItems + 9 := by
  simp [State.v86Items]

/-- An entry from V86 mode whose checks pass pushes its items on the level 0 stack and clears the data segment registers
(R295). -/
theorem State.enterFromV86_of (hpg : s.ctrl.cr0.pg = false) (hsize : g.gateSize = .s32)
    (htr : s.tables.tr.is386 = true) (hinner : InnerStack s 0 e.extBit sel sp w)
    (hstack : (w.toSeg sel).stackRoom sp (4 * (9 + e.codeItems)) = true)
    (hroom : Room (s.onLevel0 g cs (w.toSeg sel) sp) 4 (9 + e.codeItems)) (hoff : g.gateOffset ≤ cs.limit) :
    ∃ c, s.enterFromV86 e g cs = .ok ({ c with segs :=
        { c.segs with gs := .null 0, fs := .null 0, ds := .null 0, es := .null 0 } }.jumpTo g.gateOffset) ∧
      PushedAll .s32 (s.v86Items e) (s.onLevel0 g cs (w.toSeg sel) sp) c := by
  have hgate : g.is386 = true := by simpa [Desc.gateSize, sizeOf32] using hsize
  obtain ⟨c, hc, hall, -⟩ := State.pushItems_of (z := .s32) (l := s.v86Items e) (k := 0) hroom hpg (by simp; omega)
  refine ⟨c, ?_, hall⟩
  rw [State.enterFromV86, if_neg (by simp [hgate, htr]), Flags.enter_eq_gateFlags, Res.bind_of hinner.tssStack_eq]
  dsimp only
  rw [Res.bind_of (State.checkNewStack_of hinner _), need_bind _ hstack, need_bind _ (SegReg.ipOk_of hoff)]
  have hrun := Res.bind_of hc fun c => pure (({ c with segs :=
    { c.segs with gs := .null 0, fs := .null 0, ds := .null 0, es := .null 0 } }).jumpTo g.gateOffset)
  simp only [State.v86Items, State.innerItems, State.frameItems, State.pushItems, State.pushItem, bind_assoc,
    ← State.pushCode_eq] at hrun
  exact hrun

end GateEntry

/-- Settles O36: the gate's checks choose the entry at one level (`State.enter_same`), which pushes the frame and jumps
(`State.enterSame_of`). -/
theorem gateEntryAtOneLevel : Obligations.GateEntryAtOneLevel := by
  intro s e g d hp hpg hgate hlevel z k hstack hroom
  obtain ⟨c, hc, hall⟩ := State.enterSame_of (cs := d.toSeg (withRpl g.gateSel s.cpl)) hpg hstack hroom
    hgate.offset_le
  have ht := (State.enter_same hp hgate hlevel).trans hc
  exact ⟨_, c, ht, hall, rfl, fun i hs hi he => exec_softInt_of_enter ht hs hi he⟩

/-- Settles O38: from V86 mode the gate's checks choose the entry to level 0 (`State.enter_v86`), whose pushes begin in
Protected Mode (`State.enterFromV86_of`). -/
theorem v86InterruptEntersLevel0 : Obligations.V86InterruptEntersLevel0 := by
  intro s e g d w sel sp hv hpg hgate hsize hce hdpl htr hinner k a hstack hroom
  obtain ⟨c, hc, hall⟩ := State.enterFromV86_of (cs := d.toSeg (withRpl g.gateSel 0)) hpg hsize htr hinner hstack hroom
    hgate.offset_le
  have ht := (State.enter_v86 hv hgate hce hdpl).trans hc
  obtain ⟨⟨-, hsegs, -, hctrl, -⟩, hflags⟩ := hall.kept
  have hp : State.protectedMode c = true := by
    rw [State.protectedMode_iff, hctrl, hflags]
    exact ⟨(State.v86Mode_iff.1 hv).1, rfl⟩
  have hcs : c.segs.cs.sel = withRpl g.gateSel 0 := by
    rw [hsegs]
    rfl
  exact ⟨_, c, ht, hall, rfl, hp, State.cpl_of_withRpl hp hcs, fun i hs hi he => exec_softInt_of_enter ht hs hi he⟩

/-! ### Entry in Real Address Mode -/

section RealEntry

variable {s : State} {e : Event} {k n : Nat} {z : Size} {x : Stop}

/-- None of the first `k` words pushed straddles the top of the 64K stack. -/
def State.WholeWords (s : State) (k : Nat) : Prop := ∀ j, 1 ≤ j → j ≤ k → (s.pushOffset (2 * j)).toNat + 2 ≤ 2 ^ 16

/-- What holds of the first `k + 1` items holds of the first `k` and of the last. -/
theorem forall_items_succ {P : Nat → Prop} :
    (∀ j, 1 ≤ j → j ≤ k + 1 → P j) ↔ (∀ j, 1 ≤ j → j ≤ k → P j) ∧ P (k + 1) := by
  refine ⟨fun h => ⟨fun j h1 hk => h j h1 (Nat.le_succ_of_le hk), h (k + 1) (Nat.le_add_left 1 k) le_rfl⟩,
    fun ⟨h, hlast⟩ j h1 hk => ?_⟩
  obtain hlt | rfl : j ≤ k ∨ j = k + 1 := by omega
  · exact h j h1 hlt
  · exact hlast

theorem State.pushWraps_real (hr : s.realMode = true) :
    s.pushWraps .s16 k = false ↔ (s.pushOffset (2 * k)).toNat + 2 ≤ 2 ^ 16 := by
  simp [State.pushWraps, State.protectedMode_of_real hr, Size.bytes, Nat.mul_comm k]

theorem State.pushChecks_real (hr : s.realMode = true) :
    s.pushChecks .s16 k = .ok () ↔ Room s 2 k ∧ s.WholeWords k := by
  simp only [State.pushChecks_ok, State.pushWraps_real hr, Size.bytes, Nat.mul_comm _ 2]
  exact ⟨fun h => ⟨fun j h1 hk => (h j h1 hk).2, fun j h1 hk => (h j h1 hk).1⟩,
    fun ⟨hroom, hwhole⟩ j h1 hk => ⟨hwhole j h1 hk, hroom j h1 hk⟩⟩

/-- The first item that fails its check decides for the whole (R471). -/
theorem State.pushChecks_error (hk : s.pushChecks z k = .ok ()) (hx : s.pushCheck z (k + 1) = .error x) (hkn : k < n) :
    s.pushChecks z n = .error x := by
  induction n with
  | zero => omega
  | succ n ih =>
    obtain hlt | rfl : k < n ∨ k = n := by omega
    · rw [State.pushChecks, ih hlt]
    · rw [State.pushChecks, hk, hx]

/-- In Real Address Mode the first word that would straddle the top of the stack shuts the machine down. -/
theorem State.enterReal_shutdown (hr : s.realMode = true) (hkn : k < 3) (hroom : Room s 2 k) (hwhole : s.WholeWords k)
    (hwraps : ¬ s.WholeWords (k + 1)) : s.enterReal e = .error .shutdown := by
  have hcheck : s.pushCheck .s16 (k + 1) = .error .shutdown := by
    refine if_pos ?_
    rw [← Bool.not_eq_false, State.pushWraps_real hr]
    exact fun hlast => hwraps (forall_items_succ.2 ⟨hwhole, hlast⟩)
  rw [State.enterReal, State.pushChecks_error ((State.pushChecks_real hr).2 ⟨hroom, hwhole⟩) hcheck hkn]
  rfl

/-- In Real Address Mode the first word outside the stack segment is Interrupt 13 (R94). -/
theorem State.enterReal_outside (hr : s.realMode = true) (hkn : k < 3) (hroom : Room s 2 k)
    (hwhole : s.WholeWords (k + 1)) (hout : ¬ Room s 2 (k + 1)) : s.enterReal e = raise (excGP 0) := by
  obtain ⟨hbefore, hlast⟩ := forall_items_succ.1 hwhole
  have hacc : ¬ s.accessOk .ss (s.pushOffset ((k + 1) * 2)) 2 true = true := by
    rw [Nat.mul_comm]
    exact fun hacc => hout (forall_items_succ.2 ⟨hroom, hacc⟩)
  have hcheck : s.pushCheck .s16 (k + 1) = raise (excGP 0) := by
    simp [State.pushCheck, (State.pushWraps_real hr).2 hlast, Size.bytes, hacc, need, State.accessExc,
      State.protectedMode_of_real hr]
  rw [State.enterReal, State.pushChecks_error ((State.pushChecks_real hr).2 ⟨hroom, hbefore⟩) hcheck hkn]
  rfl

/-- Pushing the words of a real-mode interrupt, then looking the vector up in the IDT (R291). -/
theorem State.enterReal_of (hr : s.realMode = true) (hpg : s.ctrl.cr0.pg = false) (hroom : Room s 2 3)
    (hwhole : s.WholeWords 3) : ∃ c, c.ctrl = s.ctrl ∧
      PushedAll .s16 [.low s.flags.image, .word s.segs.cs.sel, .low s.eip] s c ∧
      s.enterReal e = need (decide (e.vec.toNat * 4 + 3 ≤ s.tables.idtr.limit.toNat)) (excGP 0) >>= fun _ =>
        c.linRead false .w16 (s.tables.idtr.base + e.vec.setWidth 32 * 4) >>= fun ip =>
        c.linRead false .w16 (s.tables.idtr.base + e.vec.setWidth 32 * 4 + 2) >>= fun cs =>
        .ok ({ c with flags := { s.flags with intf := false, tf := false } }.jumpFar (SegReg.real cs)
          (ip.setWidth 32)) := by
  obtain ⟨c, hc, hall, -⟩ := State.pushItems_of (z := .s16) (k := 0)
    (l := [.low s.flags.image, .word s.segs.cs.sel, .low s.eip]) hroom hpg rfl
  obtain ⟨⟨-, -, -, hctrl, -⟩, -⟩ := hall.kept
  refine ⟨c, hctrl, hall, ?_⟩
  rw [State.enterReal, Res.bind_of ((State.pushChecks_real hr).2 ⟨hroom, hwhole⟩)]
  have hrun := Res.bind_of hc fun c =>
    need (decide (e.vec.toNat * 4 + 3 ≤ s.tables.idtr.limit.toNat)) (excGP 0) >>= fun _ =>
    c.linRead false .w16 (s.tables.idtr.base + e.vec.setWidth 32 * 4) >>= fun ip =>
    c.linRead false .w16 (s.tables.idtr.base + e.vec.setWidth 32 * 4 + 2) >>= fun cs =>
    .ok ({ c with flags := { s.flags with intf := false, tf := false } }.jumpFar (SegReg.real cs) (ip.setWidth 32))
  simp only [State.pushItems, State.pushItem, bind_assoc] at hrun
  exact hrun

/-- With paging off a read at a linear address always answers. -/
theorem State.linRead_pagingOff (hpg : s.ctrl.cr0.pg = false) (user : Bool) (w : Width) (lin : BitVec 32) :
    ∃ v, s.linRead user w lin = .ok v :=
  ⟨_, by rw [State.linRead, State.linBytes, State.physAddrs_pagingOff hpg]⟩

theorem State.enter_real (hr : s.realMode = true) : s.enter e = s.enterReal e := if_pos hr

end RealEntry

/-- Settles O34: the words to push are checked in order (`State.pushChecks_real`, `State.pushChecks_error`); where all
fit they are pushed and the vector is looked up (`State.enterReal_of`). -/
theorem realModeInterruptEntry : Obligations.RealModeInterruptEntry := by
  refine fun s hs => ⟨fun i v hi hr hpg => ?_, fun hofl => ?_⟩
  · have hvec : (softEvent v).vec = v := rfl
    have henter := State.enter_real (e := softEvent v) hr
    refine ⟨fun hroom hwhole hidt => ?_, fun hroom hwhole hidt => ?_, fun k hk hroom hwhole hwraps => ?_,
      fun k hk hroom hwhole hout => ?_⟩
    · obtain ⟨c, hctrl, hall, hc⟩ := State.enterReal_of (e := softEvent v) hr hpg hroom hwhole
      obtain ⟨ip, hip⟩ := State.linRead_pagingOff (s := c) (by rw [hctrl, hpg]) false .w16
        (s.tables.idtr.base + v.setWidth 32 * 4)
      obtain ⟨cs, hcs⟩ := State.linRead_pagingOff (s := c) (by rw [hctrl, hpg]) false .w16
        (s.tables.idtr.base + v.setWidth 32 * 4 + 2)
      rw [hvec, need_bind _ (decide_eq_true hidt), Res.bind_of hip, Res.bind_of hcs] at hc
      exact ⟨_, c, ip, cs, exec_softInt_of_enter (henter.trans hc) hs hi rfl, hall, hip, hcs, rfl⟩
    · obtain ⟨c, -, -, hc⟩ := State.enterReal_of (e := softEvent v) hr hpg hroom hwhole
      rw [need_bind_eq_ite, hvec, if_neg (by simpa using hidt)] at hc
      exact exec_softInt_raise (henter.trans hc) hs hi
    · rw [exec_softInt hs hi, henter, State.enterReal_shutdown hr hk hroom hwhole hwraps]
      rfl
    · exact exec_softInt_raise (henter.trans (State.enterReal_outside hr hk hroom hwhole hout)) hs hi
  · exact (exec_into s).trans (perform_plain hs (if_neg (by simp [hofl])))

/-! ### The checks of the IDT entry -/

section GateChecks

variable {s : State} {v : BitVec 8} {g : Desc}

/-- The checks of the IDT entry of a software interrupt, in their order, up to the present bit (R292). -/
theorem State.enterProtected_softEvent : s.enterProtected (softEvent v) =
    need (decide (v.toNat * 8 + 7 ≤ s.tables.idtr.limit.toNat)) (excGP (v.setWidth 16 * 8 + 2)) >>= fun _ =>
    s.descAt (s.tables.idtr.base + v.setWidth 32 * 8) >>= fun g =>
    need (g.isSys [5, 6, 7, 14, 15]) (excGP (v.setWidth 16 * 8 + 2)) >>= fun _ =>
    need (decide (s.cpl ≤ g.dpl)) (excGP (v.setWidth 16 * 8 + 2)) >>= fun _ =>
    need g.present (excNP (v.setWidth 16 * 8 + 2)) >>= fun _ =>
    if g.typ == 5 then s.checkTss g.gateSel excTS [1, 9] >>= fun _ => .error (.refuse .taskSwitch)
    else s.enterGate (softEvent v) g := by
  have hcode : (softEvent v).idtCode = v.setWidth 16 * 8 + 2 := BitVec.add_zero _
  rw [State.enterProtected, hcode]
  rfl

theorem Desc.isSys_iff {ts : List (BitVec 4)} : g.isSys ts = true ↔ g.isSeg = false ∧ g.typ ∈ ts := by
  simp [Desc.isSys]

end GateChecks

/-- Settles O35: the checks of the IDT entry in their order (`State.enterProtected_softEvent`), the first that fails
raising its exception. -/
theorem interruptGateChecksRaiseTheirExceptions : Obligations.InterruptGateChecksRaiseTheirExceptions := by
  intro s v hs hpe e
  have henter : s.enter (softEvent v) = _ :=
    (if_neg (State.not_realMode hpe)).trans State.enterProtected_softEvent
  simp only [need_bind_eq_ite] at henter
  refine ⟨fun i hi hidt => ?_, fun i g hi hidt hg => ?_, fun hv hiopl => ?_⟩
  · rw [if_neg (by simpa using hidt)] at henter
    exact exec_softInt_raise henter hs hi
  · rw [if_pos (decide_eq_true hidt), Res.bind_of hg] at henter
    simp only [Desc.isSys_iff, decide_eq_true_eq] at henter
    refine ⟨fun hkind => ?_, fun hdpl => ?_, fun hsys htyp hdpl hpresent => ?_⟩
    · rw [if_neg hkind] at henter
      exact exec_softInt_raise henter hs hi
    · rw [if_neg (BitVec.not_le.2 hdpl), ite_self] at henter
      exact exec_softInt_raise henter hs hi
    · rw [if_pos ⟨hsys, htyp⟩, if_pos hdpl, if_neg (by simp [hpresent])] at henter
      exact exec_softInt_raise henter hs hi
  · refine (exec_intN s v).trans (perform_plain_raise hs ?_)
    rw [State.intImm, need, if_neg (by simpa [hv] using hiopl)]
    rfl

/-! ### Calls through a call gate to an inner level -/

section CallGate

variable {s t u : State} {i : Instr} {g d w : Desc} {cs : SegReg} {sel ss : BitVec 16} {off sp : BitVec 32} {z : Size}
  {n k : Nat}

theorem State.stackItem_pagingOff (hpg : s.ctrl.cr0.pg = false)
    (hacc : s.accessOk .ss (addOffset s.stackSize (s.eReg s.stackSize .esp) (BitVec.ofNat 32 k)) z.bytes false = true) :
    ∃ x, s.stackItem z k = .ok x :=
  ⟨_, by rw [State.stackItem, State.memRead_pagingOff hpg (by rwa [Size.width_bytes])]⟩

/-- The parameters of a call gate are copied where they can be read and fit (R234). -/
theorem State.copyParams_of (hpg : s.ctrl.cr0.pg = false) (ht : t.ctrl.cr0.pg = false) (hroom : Room t z.bytes (n + k))
    (hread : ∀ k, k < n → s.accessOk .ss
      (addOffset s.stackSize (s.eReg s.stackSize .esp) (BitVec.ofNat 32 (k * z.bytes))) z.bytes false = true) :
    ∃ u, s.copyParams z n t = .ok u ∧ Copied s z n t u ∧ Room u z.bytes k := by
  induction n generalizing t with
  | zero => exact ⟨t, rfl, rfl, by rwa [Nat.zero_add] at hroom⟩
  | succ n ih =>
    rw [Nat.add_right_comm] at hroom
    obtain ⟨x, hx⟩ := State.stackItem_pagingOff (s := { s with mem := t.mem }) (z := z) hpg
      (hread n (Nat.lt_succ_self n))
    obtain ⟨y, hy, hpushed⟩ := State.push_of ht hroom.first x
    obtain ⟨-, -, -, hctrl, -⟩ := hpushed.kept
    obtain ⟨u, hu, hcopied, hrest⟩ := ih (by rw [hctrl, ht]) (hpushed.room hroom) fun k hk => hread k (by omega)
    exact ⟨u, by simp only [State.copyParams, hx, hy, hu], ⟨x, y, hx, hpushed, hcopied⟩, hrest⟩

theorem State.pushReturn_eq : s.pushReturn z sel off = State.pushItems z [.word sel, .low off] s := by
  simp only [State.pushReturn, State.pushItems, State.pushItem]
  cases s.pushWord z sel with
  | error x => rfl
  | ok t => exact (bind_pure (t.push z off)).symm

/-- A call to an inner level whose checks pass pushes the old stack pointer, copies the parameters and pushes the return
address (R234). -/
theorem State.callInner_of (hpg : s.ctrl.cr0.pg = false) (hinner : InnerStack s cs.dpl 0 ss sp w)
    (hstack : (w.toSeg ss).stackRoom sp (g.gateSize.bytes * (4 + g.gateCount)) = true)
    (hroom : Room (s.onInnerStack cs (w.toSeg ss) sp) g.gateSize.bytes (4 + g.gateCount))
    (hread : ∀ k, k < g.gateCount → s.accessOk .ss (addOffset s.stackSize (s.eReg s.stackSize .esp)
      (BitVec.ofNat 32 (k * g.gateSize.bytes))) g.gateSize.bytes false = true)
    (hoff : g.gateOffset ≤ cs.limit) :
    ∃ b c t, PushedAll g.gateSize [.word s.segs.ss.sel, .low s.gpr.esp] (s.onInnerStack cs (w.toSeg ss) sp) b ∧
      Copied s g.gateSize g.gateCount b c ∧ PushedAll g.gateSize [.word s.segs.cs.sel, .low s.eip] c t ∧
      s.callInner g cs = .ok (t.jumpTo g.gateOffset) := by
  obtain ⟨b, hb, hball, hbroom⟩ := State.pushItems_of (l := [.word s.segs.ss.sel, .low s.gpr.esp])
    (k := g.gateCount + 2) hroom hpg (by simp; omega)
  obtain ⟨⟨-, -, -, hbctrl, -⟩, -⟩ := hball.kept
  obtain ⟨c, hc, hcopied, hcroom⟩ := State.copyParams_of hpg (by rw [hbctrl]; exact hpg) hbroom hread
  obtain ⟨⟨-, -, -, hcctrl, -⟩, -⟩ := hcopied.kept
  obtain ⟨t, ht, htall, -⟩ := State.pushItems_of (l := [.word s.segs.cs.sel, .low s.eip]) (k := 0) hcroom
    (by rw [hcctrl, hbctrl]; exact hpg) rfl
  refine ⟨b, c, t, hball, hcopied, htall, ?_⟩
  rw [State.callInner, Res.bind_of hinner.tssStack_eq]
  dsimp only
  rw [Res.bind_of (State.checkNewStack_of hinner _), need_bind _ hstack, need_bind _ (SegReg.ipOk_of hoff)]
  have hrun := Res.bind_of hb fun c =>
    s.copyParams g.gateSize g.gateCount c >>= fun d => d.pushReturn g.gateSize s.segs.cs.sel s.eip >>= fun f =>
      pure (f.jumpTo g.gateOffset)
  rw [Res.bind_of hc, Res.bind_of (State.pushReturn_eq.trans ht)] at hrun
  simp only [State.pushItems, State.pushItem, bind_assoc] at hrun
  exact hrun

theorem State.farCall_inner (hp : s.protectedMode = true) (h : CallGateFor s sel g d) (hce : d.ce = false)
    (hdpl : d.dpl < s.cpl) : s.farCall off sel = s.callInner g (d.toSeg (withRpl g.gateSel d.dpl)) := by
  obtain ⟨hsel, hgate, hsys, htyp, hcpl, hrpl, hgpresent, hgsel, hd, hcode, hpresent, -⟩ := h
  have hfar : s.farDesc sel = .ok g := by
    rw [State.farDesc, need_bind _ (not_isNull hsel), State.descOf_of_some hgate]
  have hcheck : s.checkGate sel g = .ok () := by
    rw [State.checkGate, need_bind _ (decide_eq_true hcpl), need_bind _ (decide_eq_true hrpl), need_ok.2 hgpresent]
  have hcodeSeg : s.gateCode g = .ok d := by
    rw [State.gateCode, need_bind _ (not_isNull hgsel), Res.bind_of (State.descOf_of_some hd),
      need_bind _ hcode]
    rfl
  rw [State.farCall, if_pos hp, Res.bind_of hfar, if_neg (by simp [Desc.isCode, hsys]),
    if_pos (Desc.isSys_iff.2 ⟨hsys, htyp⟩), State.callGate, Res.bind_of hcheck, Res.bind_of hcodeSeg,
    need_bind _ (decide_eq_true (BitVec.le_of_lt hdpl)), need_bind _ hpresent, if_pos (by simp [hce, hdpl])]

/-- A far CALL runs with the selector and the offset that it names (R233). -/
theorem exec_farCall (hs : s.plain) (h : FarCall s i sel off) : exec i s = s.settle (s.farCall off sel) := by
  obtain ⟨o, rfl, rfl⟩ | ⟨ea, rfl, hptr⟩ := h
  · exact (exec_callFar s o sel).trans (perform_allowed (GroupRule.allows_plain _ hs))
  · refine (exec_callFarM s (.mem ea)).trans
      ((perform_allowed (GroupRule.allows_plain _ hs)).trans (congrArg s.settle ?_))
    rw [needMem, Res.bind_of (a := ea) rfl, Res.bind_of hptr]

end CallGate

/-- Settles O37: an event enters the inner level by `State.enterInner_of`, a far CALL by `State.callInner_of`; the
pushes keep CS, so CPL is the level of the new code segment. -/
theorem gateEntryToInnerLevelSwitchesStacks : Obligations.GateEntryToInnerLevelSwitchesStacks := by
  refine ⟨fun s e g d w sel sp hp hpg hgate hce hdpl hinner hstack hroom => ?_,
    fun s i off sel g d w ss sp hs hp hpg hcall hgate hce hdpl hinner hstack hroom hread => ?_⟩
  · obtain ⟨c, hc, hall⟩ := State.enterInner_of (cs := d.toSeg (withRpl g.gateSel d.dpl)) hpg hinner hstack hroom
      hgate.offset_le
    have ht := (State.enter_inner hp hgate hce hdpl).trans hc
    obtain ⟨⟨-, hsegs, -, hctrl, -⟩, -⟩ := hall.kept
    have hp' : State.protectedMode (State.jumpTo { c with flags := gateFlags s.flags g } g.gateOffset) = true :=
      Eq.trans (State.protectedMode_congr hctrl rfl) hp
    have hcs : c.segs.cs.sel = withRpl g.gateSel d.dpl := by
      rw [hsegs]
      rfl
    exact ⟨_, c, ht, hall, rfl, State.cpl_of_withRpl hp' hcs,
      fun i hs hi he => exec_softInt_of_enter ht hs hi he⟩
  · obtain ⟨b, c, t, hb, hcopied, ht, hrun⟩ := State.callInner_of (cs := d.toSeg (withRpl g.gateSel d.dpl)) hpg hinner
      hstack hroom hread hgate.offset_le
    have hexec : exec i s = .next (jumped t g.gateOffset) := by
      rw [exec_farCall hs hcall, State.farCall_inner hp hgate hce hdpl, hrun]
      rfl
    obtain ⟨⟨-, hbsegs, -, hbctrl, -⟩, hbflags⟩ := hb.kept
    obtain ⟨⟨-, hcsegs, -, hcctrl, -⟩, hcflags⟩ := hcopied.kept
    obtain ⟨⟨-, htsegs, -, htctrl, -⟩, htflags⟩ := ht.kept
    have hp' : (jumped t g.gateOffset).protectedMode = true :=
      (State.protectedMode_congr (htctrl.trans (hcctrl.trans hbctrl))
        (congrArg Flags.vm (htflags.trans (hcflags.trans hbflags)))).trans hp
    have hcs : t.segs.cs.sel = withRpl g.gateSel d.dpl := by
      rw [htsegs, hcsegs, hbsegs]
      rfl
    exact ⟨b, c, t, hb, hcopied, ht, hexec, State.cpl_of_withRpl hp' hcs⟩

/-! ### Returns -/

section Returns

variable {s : State} {ip cs fl sp ssImg : BitVec 32} {sel ss imm : BitVec 16} {level : BitVec 2} {d w : Desc}

theorem Flags.loadIret_eq_returnedFlags (fl : BitVec 32) :
    s.flags.loadIret s.cpl s.opSize fl = returnedFlags s fl := by
  cases h : s.opSize <;> simp [Flags.loadIret, Flags.loadPopf, returnedFlags, h]

theorem State.checkReturnCs_of (h : ReturnsTo s sel d) : s.checkReturnCs sel = .ok (d.toSeg sel) := by
  obtain ⟨hsel, hd, hcode, hpresent, hlevel⟩ := h
  obtain ⟨hsame, hinner⟩ : (d.ce || d.dpl == rpl sel) = true ∧ (!d.ce || decide (d.dpl ≤ rpl sel)) = true := by
    cases hce : d.ce <;> simpa [hce] using hlevel
  rw [State.checkReturnCs, need_bind _ (not_isNull hsel), Res.bind_of (State.descOf_of_some hd),
    need_bind _ hcode, need_bind _ hsame, need_bind _ hinner, need_bind _ hpresent]
  rfl

theorem State.checkReturnSs_of (h : StackFor s ss level w) : s.checkReturnSs ss level = .ok (w.toSeg ss) := by
  obtain ⟨hsel, hw, hrpl, hdpl, hdata, hrw, hpresent⟩ := h
  rw [State.checkReturnSs, need_bind _ (not_isNull hsel), Res.bind_of (State.descOf_of_some hw),
    need_bind _ (by simpa using hrpl), need_bind _ (by simp [Desc.writableData, hdata, hrw]),
    need_bind _ (by simpa using hdpl), need_bind _ hpresent]
  rfl

/-! ### Which return is made -/

theorem State.iret_of_real (h : s.realMode = true ∨ (s.v86Mode = true ∧ s.flags.iopl = 3)) : s.iret = s.iretReal := by
  refine if_pos ?_
  obtain hr | ⟨hv, hiopl⟩ := h
  · simp [hr]
  · simp [(State.v86Mode_iff.1 hv).2, hiopl]

theorem State.iret_of_v86 (hv : s.v86Mode = true) (hiopl : s.flags.iopl < 3) : s.iret = raise (excGP 0) := by
  obtain ⟨hpe, hvm⟩ := State.v86Mode_iff.1 hv
  have hne : s.flags.iopl ≠ 3 := BitVec.ne_of_lt hiopl
  rw [State.iret, if_neg (by simpa [State.realMode, hpe, hvm] using hne), if_pos hvm]

theorem State.iret_protected (hp : s.protectedMode = true) (hnt : s.flags.nt = false) :
    s.iret = s.iretSeesVm >>= fun v => if v then s.iretToV86 else s.iretStack := by
  obtain ⟨hpe, hvm⟩ := State.protectedMode_iff.1 hp
  rw [State.iret, if_neg (by simp [State.realMode, hpe, hvm]), if_neg (by simp [hvm]), if_neg (by simp [hnt])]

/-- An image without VM, or one that may not load it, returns within Protected Mode (R298). -/
theorem State.iret_of_stack (hp : s.protectedMode = true) (hnt : s.flags.nt = false) (hframe : Frame s ip cs fl)
    (hvm : s.opSize = .s32 → s.cpl = 0 → (Flags.ofImage fl).vm = false) : s.iret = s.iretStack := by
  obtain ⟨-, -, hfl⟩ := hframe
  have hsees : s.iretSeesVm = .ok false := by
    rw [State.iretSeesVm]
    split
    · next h =>
      obtain ⟨⟨hsize, hcpl⟩, -⟩ : (s.opSize = .s32 ∧ s.cpl = 0) ∧ s.stackHas 12 = true := by simpa using h
      rw [hsize] at hfl
      simp only [Size.bytes] at hfl
      rw [hfl]
      exact congrArg _ (hvm hsize hcpl)
    · rfl
  rw [State.iret_protected hp hnt, Res.bind_of hsees]
  rfl

theorem SegReg.inLimit_of_le {g : SegReg} {off m n : Nat} (h : g.inLimit off n = true) (hmn : m ≤ n) :
    g.inLimit off m = true := by
  unfold SegReg.inLimit at h ⊢
  split at h
  · next hdown =>
    rw [if_pos hdown]
    simp only [Bool.and_eq_true, decide_eq_true_eq] at h ⊢
    exact ⟨h.1, (Nat.add_le_add_left hmn off).trans h.2⟩
  · next hup =>
    rw [if_neg hup]
    simp only [decide_eq_true_eq] at h ⊢
    exact (Nat.add_le_add_left hmn off).trans h

theorem State.stackHas_of_le {m n : Nat} (h : s.stackHas n = true) (hmn : m ≤ n) : s.stackHas m = true := by
  simp only [State.stackHas, State.accessOk, Bool.and_eq_true] at h ⊢
  obtain ⟨⟨hvalid, hlimit⟩, hright⟩ := h
  exact ⟨⟨hvalid, SegReg.inLimit_of_le hlimit hmn⟩, hright⟩

/-- At level 0 a doubleword image with VM set returns to V86 mode (R298). -/
theorem State.iret_of_vm (hp : s.protectedMode = true) (hnt : s.flags.nt = false) (hsize : s.opSize = .s32)
    (hcpl : s.cpl = 0) (hstack : s.stackHas 36 = true) (hfl : s.stackItem .s32 8 = .ok fl)
    (hvm : (Flags.ofImage fl).vm = true) : s.iret = s.iretToV86 := by
  have hsees : s.iretSeesVm = .ok true := by
    rw [State.iretSeesVm, if_pos (by simp [hsize, hcpl, State.stackHas_of_le hstack]), hfl]
    exact congrArg _ hvm
  rw [State.iret_protected hp hnt, Res.bind_of hsees]
  rfl

/-! ### The returns themselves -/

theorem State.iretReal_of (h : Frame s ip cs fl) : s.iretReal = .ok (({ s.dropStack (BitVec.ofNat 32
    (3 * s.opSize.bytes)) with flags := returnedFlags s fl }.jumpFar (.real (cs.setWidth 16)) ip).unblockNmi) := by
  obtain ⟨hip, hcs, hfl⟩ := h
  rw [State.iretReal, Res.bind_of hip, Res.bind_of hcs, Res.bind_of hfl, Flags.loadIret_eq_returnedFlags]
  rfl

theorem State.iretSame_of (h : Frame s ip cs fl) (hstack : s.stackHas (3 * s.opSize.bytes) = true)
    (hd : ReturnsTo s sel d) (hip : ip ≤ d.limit) : s.iretSame sel = .ok (({ s.dropStack (BitVec.ofNat 32
    (3 * s.opSize.bytes)) with flags := returnedFlags s fl }.jumpFar (d.toSeg sel) ip).unblockNmi) := by
  obtain ⟨hipItem, -, hfl⟩ := h
  rw [State.iretSame, need_bind _ hstack, Res.bind_of (State.checkReturnCs_of hd), Res.bind_of hipItem,
    need_bind _ (SegReg.ipOk_of hip), Res.bind_of hfl, Flags.loadIret_eq_returnedFlags]
  rfl

/-- The state of a return to an outer level, before its data segment registers are looked at, is `returned` (R302). -/
theorem State.iretOuter_of (h : Frame s ip cs fl) (hstack : s.stackHas (5 * s.opSize.bytes) = true)
    (hsp : s.stackItem s.opSize (3 * s.opSize.bytes) = .ok sp)
    (hss : s.stackItem s.opSize (4 * s.opSize.bytes) = .ok ssImg) (hd : ReturnsTo s sel d) (hip : ip ≤ d.limit)
    (hw : StackFor s (ssImg.setWidth 16) (rpl sel) w) :
    s.iretOuter sel = .ok ((returned { s with flags := returnedFlags s fl } (d.toSeg sel) ip
      (w.toSeg (ssImg.setWidth 16)) sp).dropInvalid.unblockNmi) := by
  obtain ⟨hipItem, -, hfl⟩ := h
  rw [State.iretOuter, need_bind _ hstack, Res.bind_of (State.checkReturnCs_of hd), Res.bind_of hss,
    Res.bind_of (State.checkReturnSs_of hw), Res.bind_of hipItem, need_bind _ (SegReg.ipOk_of hip), Res.bind_of hfl,
    Res.bind_of hsp, Flags.loadIret_eq_returnedFlags]
  rfl

theorem State.iretStack_same (hsel : s.memRead .ss .w16 (addOffset s.stackSize (s.eReg s.stackSize .esp)
    (BitVec.ofNat 32 s.opSize.bytes)) = .ok sel) (hrpl : rpl sel = s.cpl) : s.iretStack = s.iretSame sel := by
  rw [State.iretStack, Res.bind_of hsel, need_bind _ (by simp [hrpl]), if_pos (by simp [hrpl])]

theorem State.iretStack_outer (hsel : s.memRead .ss .w16 (addOffset s.stackSize (s.eReg s.stackSize .esp)
    (BitVec.ofNat 32 s.opSize.bytes)) = .ok sel) (hrpl : s.cpl < rpl sel) : s.iretStack = s.iretOuter sel := by
  rw [State.iretStack, Res.bind_of hsel, need_bind _ (decide_eq_true (BitVec.le_of_lt hrpl)),
    if_neg (by simpa using (BitVec.ne_of_lt hrpl).symm)]

theorem Flags.loadIret_v86 (f : Flags) (hvm : (Flags.ofImage fl).vm = true) :
    { f.loadIret 0 .s32 fl with vm := true } = Flags.ofImage fl := by
  have hiopl : (0 : BitVec 2) ≤ f.iopl := Nat.zero_le _
  simp only [Flags.loadIret, Flags.loadPopf, if_pos hiopl, if_true, ← hvm]

theorem State.iretToV86_of {es ds fs gs : BitVec 32} (hstack : s.stackHas 36 = true) (hip : s.stackItem .s32 0 = .ok ip)
    (hcs : s.stackItem .s32 4 = .ok cs) (hfl : s.stackItem .s32 8 = .ok fl) (hes : s.stackItem .s32 12 = .ok es)
    (hds : s.stackItem .s32 16 = .ok ds) (hfs : s.stackItem .s32 20 = .ok fs) (hgs : s.stackItem .s32 24 = .ok gs)
    (hsp : s.stackItem .s32 28 = .ok sp) (hss : s.stackItem .s32 32 = .ok ssImg) (hreach : ip ≤ 0xFFFF)
    (hvm : (Flags.ofImage fl).vm = true) :
    s.iretToV86 = .ok (({ s with
      flags := Flags.ofImage fl
      segs := { es := .real (es.setWidth 16), cs := .real (cs.setWidth 16), ss := .real (ssImg.setWidth 16),
                ds := .real (ds.setWidth 16), fs := .real (fs.setWidth 16), gs := .real (gs.setWidth 16) }
      gpr := { s.gpr with esp := sp } }.jumpTo ip).unblockNmi) := by
  rw [State.iretToV86, need_bind _ hstack, Res.bind_of hip, need_bind _ (decide_eq_true hreach), Res.bind_of hcs,
    Res.bind_of hfl, Res.bind_of hes, Res.bind_of hds, Res.bind_of hfs, Res.bind_of hgs, Res.bind_of hsp,
    Res.bind_of hss, Flags.loadIret_v86 _ hvm]
  rfl

/-- A far RET to an outer level whose checks pass (R413). -/
theorem State.retFar_outer (hp : s.protectedMode = true) (hrpl : s.cpl < rpl sel)
    (hsel : s.memRead .ss .w16 (addOffset s.stackSize (s.eReg s.stackSize .esp) (BitVec.ofNat 32 s.opSize.bytes)) =
      .ok sel)
    (hstack : s.stackHas (4 * s.opSize.bytes + imm.toNat) = true) (hipItem : s.stackItem s.opSize 0 = .ok ip)
    (hsp : s.stackItem s.opSize (2 * s.opSize.bytes + imm.toNat) = .ok sp)
    (hss : s.stackItem s.opSize (3 * s.opSize.bytes + imm.toNat) = .ok ssImg) (hd : ReturnsTo s sel d)
    (hip : ip ≤ d.limit) (hw : StackFor s (ssImg.setWidth 16) (rpl sel) w) :
    s.retFar imm = .ok (returned s (d.toSeg sel) ip (w.toSeg (ssImg.setWidth 16))
      (sp + imm.setWidth 32)).dropInvalid := by
  rw [State.retFar, if_pos hp, Res.bind_of hsel, need_bind _ (decide_eq_true (BitVec.le_of_lt hrpl)),
    if_neg (by simpa using (BitVec.ne_of_lt hrpl).symm), State.retFarOuter, need_bind _ hstack,
    Res.bind_of (State.checkReturnCs_of hd), Res.bind_of hss, Res.bind_of (State.checkReturnSs_of hw),
    Res.bind_of hipItem, need_bind _ (SegReg.ipOk_of hip), Res.bind_of hsp]
  rfl

/-! ### The data segment registers after a return to an outer level -/

theorem State.descAddr_isSome_iff : (s.descAddr sel).isSome = true ↔
    if sel.getLsbD 2 = true then
      s.tables.ldtr.valid = true ∧ (sel &&& 0xFFF8).toNat + 7 ≤ s.tables.ldtr.limit.toNat
    else (sel &&& 0xFFF8).toNat + 7 ≤ s.tables.gdtr.limit.toNat := by
  rw [State.descAddr, State.tableFor, isLocal]
  cases sel.getLsbD 2 with
  | false => simp
  | true => cases s.tables.ldtr.valid <;> simp

theorem State.validOuter_iff (g : SegReg) : s.validOuter g = true ↔ StaysValid s g := by
  simp only [State.validOuter, StaysValid, Bool.and_eq_true, Bool.or_eq_true, State.descAddr_isSome_iff,
    decide_eq_true_eq, Bool.not_eq_true', and_assoc]

theorem State.dropInvalid_outer : Outer s s.dropInvalid := by
  have hkeep (g : SegReg) : (StaysValid s g → (if s.validOuter g then g else .null 0) = g) ∧
      (¬ StaysValid s g → (if s.validOuter g then g else .null 0) = .null 0) := by
    rw [← State.validOuter_iff]
    exact ⟨fun h => if_pos h, fun h => if_neg h⟩
  refine ⟨rfl, rfl, rfl, ?_⟩
  simp only [List.forall_mem_cons]
  exact ⟨hkeep s.segs.es, hkeep s.segs.fs, hkeep s.segs.gs, hkeep s.segs.ds, List.forall_mem_nil _⟩

/-- After a return to an outer level CPL is the RPL of the selector returned to. -/
theorem State.cpl_returned (hp : s.protectedMode = true) (d w : Desc) (ip sp : BitVec 32) :
    (returned s (d.toSeg sel) ip (w.toSeg ss) sp).dropInvalid.cpl = rpl sel :=
  State.cpl_protected (s := (returned s (d.toSeg sel) ip (w.toSeg ss) sp).dropInvalid) hp

theorem returnedFlags_vm (hp : s.protectedMode = true)
    (hvm : s.opSize = .s32 → s.cpl = 0 → (Flags.ofImage fl).vm = false) : (returnedFlags s fl).vm = false := by
  by_cases h : s.opSize = .s32 ∧ s.cpl = 0
  · exact (if_pos h).trans (hvm h.1 h.2)
  · exact (if_neg h).trans (State.protectedMode_iff.1 hp).2

end Returns

theorem exec_iret_of {s t : State} (hs : s.plain) (ht : s.iret = .ok t) : exec .iret s = .next t :=
  (exec_iret s).trans (perform_plain hs ht)

/-- Settles O39: the mode chooses the return (`State.iret_of_real`, `State.iret_of_v86`, `State.iret_of_stack`), which
pops the frame (`State.iretReal_of`, `State.iretSame_of`). -/
theorem interruptReturnsPopTheFrame : Obligations.InterruptReturnsPopTheFrame := by
  refine fun s ip cs fl hs hframe => ⟨fun hmode => ?_, fun hv hiopl => ?_,
    fun d hp hnt hvm hstack hsel hrpl hd hip => ?_⟩
  · exact exec_iret_of hs ((State.iret_of_real hmode).trans (State.iretReal_of hframe))
  · exact (exec_iret s).trans (perform_plain_raise hs (State.iret_of_v86 hv hiopl))
  · exact exec_iret_of hs ((State.iret_of_stack hp hnt hframe hvm).trans ((State.iretStack_same hsel hrpl).trans
      (State.iretSame_of hframe hstack hd hip)))

/-- Settles O40: the returns are `State.iretOuter_of`, `State.iretToV86_of` and `State.retFar_outer`; what becomes of
the data segment registers is `State.dropInvalid_outer`. -/
theorem interruptReturnsToOuterLevelAndV86 : Obligations.InterruptReturnsToOuterLevelAndV86 := by
  refine ⟨fun s ip cs fl sp ss hs hp hnt hframe => ⟨fun d w hvm hstack hsel hsp hss hrpl hd hip hw => ?_,
    fun es ds fs gs hsize hcpl hvm hstack hes hds hfs hgs hsp hss hip => ?_⟩,
    fun s i imm sel ip sp ss d w hs hp hi hstack hsel hipItem hsp hss hrpl hd hip hw => ?_⟩
  · have hrun := (State.iret_of_stack hp hnt hframe hvm).trans ((State.iretStack_outer hsel hrpl).trans
      (State.iretOuter_of hframe hstack hsp hss hd hip hw))
    have hp' : State.protectedMode { s with flags := returnedFlags s fl } = true :=
      State.protectedMode_iff.2 ⟨(State.protectedMode_iff.1 hp).1, returnedFlags_vm hp hvm⟩
    exact ⟨_, exec_iret_of hs hrun, State.dropInvalid_outer, State.cpl_returned hp' d w ip sp⟩
  · obtain ⟨hipItem, hcs, hfl⟩ := hframe
    rw [hsize] at hipItem hcs hfl
    exact exec_iret_of hs ((State.iret_of_vm hp hnt hsize hcpl hstack hfl hvm).trans
      (State.iretToV86_of hstack hipItem hcs hfl hes hds hfs hgs hsp hss hip hvm))
  · have hrun := State.retFar_outer hp hrpl hsel hstack hipItem hsp hss hd hip hw
    refine ⟨_, ?_, State.dropInvalid_outer, State.cpl_returned hp d w ip _⟩
    obtain ⟨rfl, rfl⟩ | rfl := hi
    · exact (exec_retFar s).trans (perform_plain hs hrun)
    · exact (exec_retFarImm s imm).trans (perform_plain hs hrun)

end Sys2Proof.Machine

/-! PROOFS. O29, O30: transfers within CS. Targets and conditions come first, then the jumps, the counted loops, and near
CALL and RET. -/

namespace Sys2Proof.Machine

open Claims (Condition InReach Pushed PushFits Raises counted displacement jccForms jumped loopForms target)

/-! ### Targets and conditions -/

section NearTargets

variable {s : State} {v d : BitVec 32} {c : Bool}

theorem Flags.cond_iff (f : Flags) (n : Nat) : f.cond n = true ↔ Condition f n := by
  unfold Flags.cond Condition
  split <;> simp

theorem displacement_eq_value (rel : Rel) : displacement rel = rel.value := by
  obtain d | (d | d) := rel <;> rfl

theorem State.relTarget_eq_target (d : BitVec 32) : s.relTarget d = target s d := by
  unfold State.relTarget target
  cases s.opSize with
  | s16 =>
    have hmask := Nat.and_two_pow_sub_one_eq_mod (s.eip + d).toNat 16
    exact BitVec.eq_of_toNat_eq (by simp [truncSize] at hmask ⊢; omega)
  | s32 => rfl

theorem State.needTarget_of_inReach (h : InReach s v) : s.needTarget v = .ok () :=
  need_ok.2 (by simpa [InReach, SegReg.ipOk, ← Bool.not_eq_true, ← imp_iff_not_or] using h)

theorem State.needTarget_of_not_inReach (h : ¬ InReach s v) : s.needTarget v = raise (excGP 0) := by
  obtain ⟨hp, hv⟩ := Classical.not_imp.1 h
  rw [State.needTarget, need, if_neg (by simpa [hp, SegReg.ipOk] using hv)]

theorem State.jumpNear_of_inReach (h : InReach s v) : s.jumpNear v = .ok (jumped s v) := by
  rw [State.jumpNear, State.needTarget_of_inReach h]
  rfl

theorem State.jumpNear_of_not_inReach (h : ¬ InReach s v) : s.jumpNear v = raise (excGP 0) := by
  rw [State.jumpNear, State.needTarget_of_not_inReach h]
  rfl

theorem State.jumpIf_true : s.jumpIf true d = s.jumpNear (target s d) := by
  rw [← State.relTarget_eq_target]
  rfl

theorem State.jumpIf_false : s.jumpIf false d = .ok s := rfl

end NearTargets

/-! ### Jcc, LOOP and JCXZ -/

section ConditionalJumps

variable {s : State}

theorem exec_jccForms (hs : s.plain) (rel : Rel) : ∀ i ∈ jccForms rel,
    exec i.2 s = s.settle (s.jumpIf (s.flags.cond i.1) (displacement rel)) := by
  have hrun {i : Instr} {n : Nat} (h : exec i s = perform .none s fun s => s.jcc n rel) :
      exec i s = s.settle (s.jumpIf (s.flags.cond n) (displacement rel)) := by
    rw [h, perform_allowed (GroupRule.allows_plain _ hs), displacement_eq_value]
    rfl
  simp only [jccForms, List.forall_mem_cons]
  exact ⟨hrun (exec_jo s rel), hrun (exec_jno s rel), hrun (exec_jb s rel), hrun (exec_jnb s rel), hrun (exec_jz s rel),
    hrun (exec_jnz s rel), hrun (exec_jbe s rel), hrun (exec_jnbe s rel), hrun (exec_js s rel), hrun (exec_jns s rel),
    hrun (exec_jp s rel), hrun (exec_jnp s rel), hrun (exec_jl s rel), hrun (exec_jnl s rel), hrun (exec_jle s rel),
    hrun (exec_jnle s rel), List.forall_mem_nil _⟩

/-- The count that LOOP leaves is 0 exactly when it was 1. -/
theorem State.countReg_counted : (counted s).countReg ≠ 0 ↔ s.eReg s.addrSize .ecx ≠ 1 := by
  have hcount : (counted s).countReg = truncSize s.addrSize (s.eReg s.addrSize .ecx - 1) := State.eReg_setEReg _
  rw [hcount, ← truncSize_eReg (z := s.addrSize) (s := s)]
  cases s.addrSize with
  | s16 => simp only [truncSize]; bv_omega
  | s32 => simp only [truncSize]; bv_omega

/-- Each LOOP instruction counts down and then jumps where ZF is as it asks and the count was not 1 (R345). -/
theorem exec_loopForms (hs : s.plain) (rel : BitVec 8) : ∀ i ∈ loopForms rel s,
    ∃ c : Bool, (c = true ↔ i.2 ∧ s.eReg s.addrSize .ecx ≠ 1) ∧
      exec i.1 s = s.settle ((counted s).jumpIf c (rel.signExtend 32)) := by
  have hrun {i : Instr} {p : Prop} {b : Bool} (hb : b = true ↔ p)
      (h : exec i s = perform .none s fun _ => s.loopIf b rel) :
      ∃ c : Bool, (c = true ↔ p ∧ s.eReg s.addrSize .ecx ≠ 1) ∧
        exec i s = s.settle ((counted s).jumpIf c (rel.signExtend 32)) :=
    ⟨b && (counted s).countReg != 0, by rw [Bool.and_eq_true, bne_iff_ne, State.countReg_counted, hb],
      h.trans (perform_allowed (GroupRule.allows_plain _ hs))⟩
  simp only [loopForms, List.forall_mem_cons]
  exact ⟨hrun (by simp) (exec_loopRel8 s rel), hrun Iff.rfl (exec_loopeRel8 s rel),
    hrun (by simp) (exec_loopneRel8 s rel), List.forall_mem_nil _⟩

theorem exec_jcxz (hs : s.plain) (rel : BitVec 8) :
    exec (.jcxzRel8 rel) s = s.settle (s.jumpIf (s.eReg s.addrSize .ecx == 0) (rel.signExtend 32)) :=
  (exec_jcxzRel8 s rel).trans (perform_allowed (GroupRule.allows_plain _ hs))

end ConditionalJumps

/-- Settles O29: every form runs one conditional jump (`exec_jccForms`, `exec_loopForms`, `exec_jcxz`), the LOOP
instructions from the state that has counted down. -/
theorem conditionalTransfers : Obligations.ConditionalTransfers := by
  refine ⟨fun s rel hs i hi => ⟨fun hc hv => ?_, fun hc hv => ?_, fun hc => ?_⟩, fun s rel hs => ⟨fun i hi hc hv => ?_,
    fun i hi hc => ?_, fun i hi hc hv => ?_, fun hc hv => ?_, fun hc => ?_⟩⟩
  · rw [exec_jccForms hs rel i hi, (s.flags.cond_iff i.1).2 hc, State.jumpIf_true, State.jumpNear_of_inReach hv]
    rfl
  · rw [Raises, exec_jccForms hs rel i hi, (s.flags.cond_iff i.1).2 hc, State.jumpIf_true,
      State.jumpNear_of_not_inReach hv]
    rfl
  · rw [exec_jccForms hs rel i hi, Bool.eq_false_iff.2 (mt (s.flags.cond_iff i.1).1 hc)]
    rfl
  · obtain ⟨c, hiff, hexec⟩ := exec_loopForms hs rel i hi
    rw [hexec, hiff.2 hc, State.jumpIf_true]
    exact congrArg s.settle (State.jumpNear_of_inReach (s := counted s) hv)
  · obtain ⟨c, hiff, hexec⟩ := exec_loopForms hs rel i hi
    rw [hexec, Bool.eq_false_iff.2 (mt hiff.1 hc)]
    rfl
  · obtain ⟨c, hiff, hexec⟩ := exec_loopForms hs rel i hi
    rw [Raises, hexec, hiff.2 hc, State.jumpIf_true]
    exact congrArg s.settle (State.jumpNear_of_not_inReach (s := counted s) hv)
  · rw [exec_jcxz hs, hc, beq_self_eq_true, State.jumpIf_true, State.jumpNear_of_inReach hv]
    rfl
  · rw [exec_jcxz hs, beq_eq_false_iff_ne.2 hc]
    rfl


/-! ### Near JMP, CALL and RET -/

section NearTransfers

variable {s t : State} {z : Size} {v : BitVec 32} {imm : BitVec 16} {i : Instr} {rm : RM}

/-- All that a push can do, as one item stored below the top of the stack (R5). -/
theorem State.push_pushed (h : s.push z v = .ok t) : Pushed s t z (v.setWidth _) := by
  obtain ⟨u, hu, rfl⟩ := State.push_ok h
  obtain ⟨-, ps, hps, rfl⟩ := State.memWrite_ok hu
  refine ⟨⟨ps, hps, rfl, fun a ha => memByte_memSetBytes_other _ _ _ ha⟩, by simp, by simp, ?_⟩
  exact ⟨by simp, by simp, by simp, by simp, by simp, by simp, State.noteStores_seq _ _ _⟩

/-- A push whose write check passes takes place, with paging on or off. -/
theorem State.push_of_writeCheck (h : s.writeCheck .ss (s.pushOffset z.bytes) z.bytes = .ok ()) (v : BitVec 32) :
    ∃ t, s.push z v = .ok t ∧ Pushed s t z (v.setWidth _) := by
  obtain ⟨hacc, ps, hps⟩ := State.writeCheck_ok h
  have hwrite := State.memWrite_of (w := z.width) (ps := ps) (v.setWidth _) (by rwa [Size.width_bytes])
    (by rwa [Size.width_bytes])
  obtain ⟨t, ht⟩ : ∃ t, s.push z v = .ok t := ⟨_, by rw [State.push, hwrite]⟩
  exact ⟨t, ht, State.push_pushed ht⟩

theorem State.nearTarget_of {a : BitVec s.opSize.width.bits} (h : s.readRM s.opSize.width rm = .ok a) :
    s.nearTarget rm = .ok (a.setWidth 32) := by
  rw [State.nearTarget, h]

/-- A near CALL within reach that has room pushes the offset of the next instruction and jumps (R230). -/
theorem State.callNear_of (hv : InReach s v) (hfits : PushFits s) :
    ∃ t, s.callNear v = .ok (jumped t v) ∧ Pushed s t s.opSize (s.eip.setWidth _) := by
  obtain ⟨t, ht, hpushed⟩ := State.push_of_writeCheck hfits s.eip
  refine ⟨t, ?_, hpushed⟩
  rw [State.callNear, State.needTarget_of_inReach hv, ht]
  rfl

theorem State.retNear_of (hitem : s.stackItem s.opSize 0 = .ok v) (hv : InReach s v) : s.retNear imm =
    .ok (jumped ((s.dropStack (BitVec.ofNat 32 s.opSize.bytes)).dropStack (imm.setWidth 32)) v) := by
  rw [State.retNear, State.pop, hitem]
  simp only [State.needTarget_of_inReach hv]
  rfl

theorem State.retNear_of_not_inReach (hitem : s.stackItem s.opSize 0 = .ok v) (hv : ¬ InReach s v) :
    s.retNear imm = raise (excGP 0) := by
  rw [State.retNear, State.pop, hitem]
  simp only [State.needTarget_of_not_inReach hv]
  rfl

theorem exec_jmpRmv_of {a : BitVec s.opSize.width.bits} (hs : s.plain) (h : s.readRM s.opSize.width rm = .ok a) :
    exec (.jmpRmv rm) s = s.settle (s.jumpNear (a.setWidth 32)) := by
  rw [exec_jmpRmv, execJmpRmv, perform_allowed (GroupRule.allows_plain _ hs), State.nearTarget_of h]
  rfl

/-- A near CALL runs with the offset that its displacement or its operand gives (R230, R231). -/
theorem exec_callNear (hs : s.plain) (h : (∃ iv, i = .callRelv iv ∧ v = target s (displacement (.near iv))) ∨
    ∃ rm a, i = .callRmv rm ∧ s.readRM s.opSize.width rm = .ok a ∧ v = a.setWidth 32) :
    exec i s = s.settle (s.callNear v) := by
  obtain ⟨iv, rfl, rfl⟩ | ⟨rm, a, rfl, ha, rfl⟩ := h
  · rw [displacement_eq_value, ← State.relTarget_eq_target]
    exact (exec_callRelv s iv).trans (perform_allowed (GroupRule.allows_plain _ hs))
  · rw [exec_callRmv, execCallRmv, perform_allowed (GroupRule.allows_plain _ hs), State.nearTarget_of ha]
    rfl

theorem exec_retNear_of (hs : s.plain) (h : (i = .retNear ∧ imm = 0) ∨ i = .retNearImm imm) :
    exec i s = s.settle (s.retNear imm) := by
  obtain ⟨rfl, rfl⟩ | rfl := h
  · exact (exec_retNear s).trans (perform_allowed (GroupRule.allows_plain _ hs))
  · exact (exec_retNearImm s imm).trans (perform_allowed (GroupRule.allows_plain _ hs))

end NearTransfers

/-- Settles O30: JMP is `State.jumpNear_of_inReach`, CALL `State.callNear_of` and RET `State.retNear_of`; beyond the
limit of CS the check of the target raises. -/
theorem nearTransfers : Obligations.NearTransfers := by
  refine ⟨fun s hs => ⟨fun rel => ?_, fun iv hv => ?_, fun rm a ha hv => ?_, fun rm a ha hv => ?_⟩,
    fun s hs => ⟨fun i v hi hv hfits => ?_, fun i imm hi v hitem hv => ?_, fun i imm hi v hitem hv => ?_⟩⟩
  · refine List.forall_mem_singleton.2 fun hv => (exec_jmpRel8 s rel).trans (perform_plain hs ?_)
    rw [State.relTarget_eq_target, State.jumpNear_of_inReach hv]
  · refine (exec_jmpRelv s iv).trans (perform_plain hs ?_)
    rw [← Rel.value, State.relTarget_eq_target, ← displacement_eq_value, State.jumpNear_of_inReach hv]
  · rw [exec_jmpRmv_of hs ha, State.jumpNear_of_inReach hv]
    rfl
  · rw [Raises, exec_jmpRmv_of hs ha, State.jumpNear_of_not_inReach hv]
    rfl
  · obtain ⟨t, ht, hpushed⟩ := State.callNear_of hv hfits
    refine ⟨t, ?_, hpushed⟩
    rw [exec_callNear hs hi, ht]
    rfl
  · rw [exec_retNear_of hs hi, State.retNear_of hitem hv]
    rfl
  · rw [Raises, exec_retNear_of hs hi, State.retNear_of_not_inReach hitem hv]
    rfl

end Sys2Proof.Machine

/-! PROOFS. O31, O32, O33: far transfers. The run of each form comes first, then the checks of a code segment and of a
call gate, then JMP, CALL and RET. -/

namespace Sys2Proof.Machine

open Claims (CallGateFor FarCall FarJmp Item OfLevel Pushed PushedAll Raises ReturnsTo Room jumped)

/-! ### Far transfers as instructions -/

section FarForms

variable {s : State} {i : Instr} {sel imm : BitVec 16} {off : BitVec 32}

/-- A far JMP runs with the selector and the offset that it names (R315). -/
theorem exec_farJmp (hs : s.plain) (h : FarJmp s i sel off) : exec i s = s.settle (s.farJump off sel) := by
  obtain ⟨o, rfl, rfl⟩ | ⟨ea, rfl, hptr⟩ := h
  · exact (exec_jmpFar s o sel).trans (perform_allowed (GroupRule.allows_plain _ hs))
  · refine (exec_jmpFarM s (.mem ea)).trans
      ((perform_allowed (GroupRule.allows_plain _ hs)).trans (congrArg s.settle ?_))
    rw [needMem, Res.bind_of (a := ea) rfl, Res.bind_of hptr]

theorem exec_retFar_of (hs : s.plain) (h : (i = .retFar ∧ imm = 0) ∨ i = .retFarImm imm) :
    exec i s = s.settle (s.retFar imm) := by
  obtain ⟨rfl, rfl⟩ | rfl := h
  · exact (exec_retFar s).trans (perform_allowed (GroupRule.allows_plain _ hs))
  · exact (exec_retFarImm s imm).trans (perform_allowed (GroupRule.allows_plain _ hs))

/-- A far pointer is in memory: a register operand is #UD (R155). -/
theorem farTransfer_reg_raises (hs : s.plain) (q : Reg) :
    Raises (.jmpFarM (.reg q)) s excUD ∧ Raises (.callFarM (.reg q)) s excUD :=
  ⟨(exec_jmpFarM s (.reg q)).trans (perform_plain_raise hs rfl),
    (exec_callFarM s (.reg q)).trans (perform_plain_raise hs rfl)⟩

/-- What both far JMP and far CALL raise, their immediate forms raise (R471). -/
theorem farTransfer_raises {o : VImm} {x : Exc} (hs : s.plain)
    (h : s.farJump o.zext sel = raise x ∧ s.farCall o.zext sel = raise x) :
    ∀ i ∈ [Instr.jmpFar o sel, .callFar o sel], Raises i s x := by
  obtain ⟨hjmp, hcall⟩ := h
  simp only [List.forall_mem_cons]
  exact ⟨(exec_jmpFar s o sel).trans (perform_plain_raise hs hjmp),
    (exec_callFar s o sel).trans (perform_plain_raise hs hcall), List.forall_mem_nil _⟩

end FarForms

/-! ### The return address of a far CALL -/

section ReturnAddress

variable {s : State} {z : Size} {cs : SegReg} {off : BitVec 32}

/-- Two items that fit one by one leave room for both. -/
theorem room_two {n : Nat} (hfirst : s.accessOk .ss (s.pushOffset n) n true = true)
    (hsecond : s.accessOk .ss (s.pushOffset (2 * n)) n true = true) : Room s n 2 := by
  intro j hj hj2
  obtain rfl | rfl : j = 1 ∨ j = 2 := by omega
  · rwa [Nat.mul_one]
  · rwa [Nat.mul_comm]

/-- The two items of a return address are CS, with anything above it, and the offset of the next instruction. -/
theorem pushedAll_returnAddress {u : State} (h : PushedAll z [.word s.segs.cs.sel, .low s.eip] s u) :
    ∃ t x, Pushed s t z x ∧ x.setWidth 16 = s.segs.cs.sel ∧ Pushed t u z (s.eip.setWidth _) := by
  obtain ⟨t, x, hx, ht, u', y, rfl, hu, rfl⟩ := h
  exact ⟨t, x, ht, hx, hu⟩

theorem State.pushReturn_of (hpg : s.ctrl.cr0.pg = false) (hroom : Room s z.bytes 2) :
    ∃ u, s.pushReturn z s.segs.cs.sel s.eip = .ok u ∧ PushedAll z [.word s.segs.cs.sel, .low s.eip] s u := by
  obtain ⟨u, hu, hall, -⟩ := State.pushItems_of (l := [.word s.segs.cs.sel, .low s.eip]) (k := 0) hroom hpg rfl
  exact ⟨u, State.pushReturn_eq.trans hu, hall⟩

/-- A CALL at one level whose other checks passed pushes the return address and jumps (R233, R234). -/
theorem State.callCode_of (hpg : s.ctrl.cr0.pg = false)
    (hstack : s.segs.ss.stackRoom (s.eReg s.stackSize .esp) (2 * z.bytes) = true) (hroom : Room s z.bytes 2)
    (hoff : off ≤ cs.limit) :
    ∃ u, s.callCode z cs off = .ok (jumped (u.setSeg .cs cs) off) ∧
      PushedAll z [.word s.segs.cs.sel, .low s.eip] s u := by
  obtain ⟨u, hu, hall⟩ := State.pushReturn_of hpg hroom
  refine ⟨u, ?_, hall⟩
  rw [State.callCode, need_bind _ hstack, need_bind _ (SegReg.ipOk_of hoff), Res.bind_of hu]
  rfl

theorem State.jumpCode_beyond (hoff : cs.limit < off) : s.jumpCode cs off = raise (excGP 0) := by
  rw [State.jumpCode, need_bind_eq_ite, SegReg.ipOk, if_neg (mt of_decide_eq_true (BitVec.not_le.2 hoff))]

theorem State.jumpCode_of (hoff : off ≤ cs.limit) : s.jumpCode cs off = .ok (jumped (s.setSeg .cs cs) off) := by
  rw [State.jumpCode, need_bind _ (SegReg.ipOk_of hoff)]
  rfl

end ReturnAddress

/-! ### Outside Protected Mode -/

section RealTransfers

variable {s : State} {sel imm : BitVec 16} {off ip cs : BitVec 32}

theorem SegReg.real_ipOk_iff : (SegReg.real sel).ipOk off = true ↔ off.toNat ≤ 0xFFFF := by
  rw [SegReg.ipOk, decide_eq_true_eq]
  exact BitVec.le_def

theorem State.farJump_real (hp : s.protectedMode = false) :
    s.farJump off sel = .ok (jumped (s.setSeg .cs (.real sel)) off) := by
  rw [State.farJump, hp]
  rfl

/-- Outside Protected Mode a far CALL checks its target first (R232). -/
theorem State.farCall_real (hp : s.protectedMode = false) : s.farCall off sel =
    need ((SegReg.real sel).ipOk off) (excGP 0) >>= fun _ =>
    s.pushReturn s.opSize s.segs.cs.sel s.eip >>= fun t => pure (t.jumpFar (SegReg.real sel) off) := by
  rw [State.farCall, hp]
  rfl

theorem State.farCall_real_of (hp : s.protectedMode = false) (hpg : s.ctrl.cr0.pg = false) (hoff : off.toNat ≤ 0xFFFF)
    (hroom : Room s s.opSize.bytes 2) :
    ∃ u, s.farCall off sel = .ok (jumped (u.setSeg .cs (.real sel)) off) ∧
      PushedAll s.opSize [.word s.segs.cs.sel, .low s.eip] s u := by
  obtain ⟨u, hu, hall⟩ := State.pushReturn_of hpg hroom
  refine ⟨u, ?_, hall⟩
  rw [State.farCall_real hp, need_bind _ (SegReg.real_ipOk_iff.2 hoff), Res.bind_of hu]
  rfl

theorem State.farCall_real_beyond (hp : s.protectedMode = false) (hoff : 0xFFFF < off.toNat) :
    s.farCall off sel = raise (excGP 0) := by
  rw [State.farCall_real hp, need_bind_eq_ite, if_neg (mt SegReg.real_ipOk_iff.1 (Nat.not_le.2 hoff))]

theorem State.retFar_real (hp : s.protectedMode = false) (hip : s.stackItem s.opSize 0 = .ok ip)
    (hcs : s.stackItem s.opSize s.opSize.bytes = .ok cs) : s.retFar imm =
      .ok (jumped ((s.dropStack (BitVec.ofNat 32 (2 * s.opSize.bytes) + imm.setWidth 32)).setSeg .cs
        (.real (cs.setWidth 16))) ip) := by
  rw [State.retFar, hp, if_neg Bool.false_ne_true, State.retFarReal, Res.bind_of hip, Res.bind_of hcs]
  rfl

end RealTransfers

/-- Settles O31: JMP is `State.farJump_real`, CALL `State.farCall_real_of` and RET `State.retFar_real`. -/
theorem realModeFarTransfersLoadCs : Obligations.RealModeFarTransfersLoadCs := by
  refine fun s hs hp => ⟨fun off sel => ?_, fun ea off sel hptr => ?_,
    fun i off sel hi => ⟨fun hoff hpg hfirst hsecond => ?_, fun hoff => ?_⟩,
    fun i imm hi ip cs hip hcs => ?_, farTransfer_reg_raises hs⟩
  · rw [exec_farJmp hs (.inl ⟨off, rfl, rfl⟩), State.farJump_real hp]
    rfl
  · rw [exec_farJmp hs (.inr ⟨ea, rfl, hptr⟩), State.farJump_real hp]
    rfl
  · obtain ⟨u, hu, hall⟩ := State.farCall_real_of (sel := sel) hp hpg hoff (room_two hfirst hsecond)
    obtain ⟨t, x, ht, hx, htu⟩ := pushedAll_returnAddress hall
    refine ⟨t, u, x, ?_, ht, hx, htu⟩
    rw [exec_farCall hs hi, hu]
    rfl
  · rw [Raises, exec_farCall hs hi, State.farCall_real_beyond hp hoff]
    rfl
  · rw [exec_retFar_of hs hi, State.retFar_real hp hip hcs]
    rfl

/-! ### The checks of Protected Mode -/

section FarChecks

variable {s : State} {sel imm : BitVec 16} {off : BitVec 32} {g d : Desc} {x : Exc}

theorem State.farDesc_of (hsel : sel &&& 0xFFFC ≠ 0) (hd : s.descOf? sel = .ok (some d)) : s.farDesc sel = .ok d := by
  rw [State.farDesc, need_bind _ (not_isNull hsel), State.descOf_of_some hd]

theorem State.farDesc_null (hsel : sel &&& 0xFFFC = 0) : s.farDesc sel = raise (excGP 0) := by
  rw [State.farDesc, isNull_iff.2 hsel]
  rfl

theorem State.farDesc_beyondTable (hsel : sel &&& 0xFFFC ≠ 0) (hd : s.descOf? sel = .ok none) :
    s.farDesc sel = raise (excGP (sel &&& 0xFFFC)) := by
  rw [State.farDesc, need_bind _ (not_isNull hsel), State.descOf_of_none hd]
  rfl

/-- The check of the level of a code segment is `OfLevel`. -/
theorem ofLevel_iff : (if d.ce = true then decide (d.dpl ≤ s.cpl) else d.dpl == s.cpl) = true ↔ OfLevel s d := by
  unfold OfLevel
  split <;> simp

theorem dpl_le_of_ofLevel (h : OfLevel s d) : d.dpl ≤ s.cpl := by
  unfold OfLevel at h
  split at h
  · exact h
  · exact BitVec.le_of_eq h

/-- A code segment of the wrong RPL or level: both checks raise the same exception, so that their order does not show. -/
theorem State.checkCode_refused (h : ¬ ((d.ce = true ∨ rpl sel ≤ s.cpl) ∧ OfLevel s d)) :
    s.checkCode sel d = raise (excGP (sel &&& 0xFFFC)) := by
  rw [State.checkCode]
  by_cases hrpl : d.ce = true ∨ rpl sel ≤ s.cpl
  · have hlevel : ¬ OfLevel s d := fun hl => h ⟨hrpl, hl⟩
    rw [need_bind _ (by simpa using hrpl), need_bind_eq_ite, if_neg (mt ofLevel_iff.1 hlevel), selCode]
  · rw [need_bind_eq_ite, if_neg (by simpa using hrpl), selCode]

theorem State.checkCode_absent (hrpl : d.ce = true ∨ rpl sel ≤ s.cpl) (hlevel : OfLevel s d)
    (hpresent : d.present = false) : s.checkCode sel d = raise (excNP (sel &&& 0xFFFC)) := by
  rw [State.checkCode, need_bind _ (by simpa using hrpl), need_bind _ (ofLevel_iff.2 hlevel), need_bind_eq_ite,
    if_neg (by simp [hpresent]), selCode]

theorem State.checkCode_of (hrpl : d.ce = true ∨ rpl sel ≤ s.cpl) (hlevel : OfLevel s d) (hpresent : d.present = true) :
    s.checkCode sel d = .ok (d.toSeg (withRpl sel s.cpl)) := by
  rw [State.checkCode, need_bind _ (by simpa using hrpl), need_bind _ (ofLevel_iff.2 hlevel), need_bind _ hpresent]
  rfl

/-! ### Which transfer is made -/

/-- Far JMP and far CALL raise what reading the descriptor raises. -/
theorem farTransfer_of_farDesc_raise (hp : s.protectedMode = true) (h : s.farDesc sel = raise x) :
    s.farJump off sel = raise x ∧ s.farCall off sel = raise x := by
  rw [State.farJump, State.farCall, if_pos hp, if_pos hp, h]
  exact ⟨rfl, rfl⟩

theorem farTransfer_to_code (hp : s.protectedMode = true) (hd : s.farDesc sel = .ok d) (hcode : d.isCode = true) :
    s.farJump off sel = s.checkCode sel d >>= (fun cs => s.jumpCode cs off) ∧
      s.farCall off sel = s.checkCode sel d >>= fun cs => s.callCode s.opSize cs off := by
  rw [State.farJump, State.farCall, if_pos hp, if_pos hp, Res.bind_of hd, Res.bind_of hd, if_pos hcode, if_pos hcode]
  exact ⟨rfl, rfl⟩

theorem farTransfer_to_code_raise (hp : s.protectedMode = true) (hd : s.farDesc sel = .ok d) (hcode : d.isCode = true)
    (hx : s.checkCode sel d = raise x) : s.farJump off sel = raise x ∧ s.farCall off sel = raise x := by
  obtain ⟨hjmp, hcall⟩ := farTransfer_to_code (off := off) hp hd hcode
  rw [hjmp, hcall, hx]
  exact ⟨rfl, rfl⟩

/-- A data segment is neither code nor a system descriptor. -/
theorem farTransfer_to_data_raise (hp : s.protectedMode = true) (hd : s.farDesc sel = .ok d) (hdata : d.isData = true) :
    s.farJump off sel = raise (excGP (sel &&& 0xFFFC)) ∧ s.farCall off sel = raise (excGP (sel &&& 0xFFFC)) := by
  obtain ⟨hseg, hbit⟩ : d.isSeg = true ∧ d.hi.getLsbD 11 = false := by simpa [Desc.isData] using hdata
  have hcode : ¬ d.isCode = true := by simpa [Desc.isCode, hseg] using hbit
  have hsys (ts : List (BitVec 4)) : ¬ d.isSys ts = true := by simp [Desc.isSys, hseg]
  rw [State.farJump, State.farCall, if_pos hp, if_pos hp, Res.bind_of hd, Res.bind_of hd, if_neg hcode, if_neg hcode,
    if_neg (hsys _), if_neg (hsys _), if_neg (hsys _), if_neg (hsys _)]
  exact ⟨rfl, rfl⟩

theorem farTransfer_to_callGate (hp : s.protectedMode = true) (h : CallGateFor s sel g d) :
    s.farJump off sel = s.jumpGate sel g ∧ s.farCall off sel = s.callGate sel g := by
  obtain ⟨hsel, hgate, hsys, htyp, -⟩ := h
  have hd := State.farDesc_of hsel hgate
  have hcode : ¬ g.isCode = true := by simp [Desc.isCode, hsys]
  have hkind := Desc.isSys_iff.2 ⟨hsys, htyp⟩
  rw [State.farJump, State.farCall, if_pos hp, if_pos hp, Res.bind_of hd, Res.bind_of hd, if_neg hcode, if_neg hcode,
    if_pos hkind, if_pos hkind]
  exact ⟨rfl, rfl⟩

/-! ### Transfers whose checks pass -/

theorem State.checkGate_of (h : CallGateFor s sel g d) : s.checkGate sel g = .ok () := by
  obtain ⟨-, -, -, -, hcpl, hrpl, hpresent, -⟩ := h
  rw [State.checkGate, need_bind _ (decide_eq_true hcpl), need_bind _ (decide_eq_true hrpl), need_ok.2 hpresent]

theorem State.gateCode_of (h : CallGateFor s sel g d) : s.gateCode g = .ok d := by
  obtain ⟨-, -, -, -, -, -, -, hsel, hd, hcode, -⟩ := h
  rw [State.gateCode, need_bind _ (not_isNull hsel), Res.bind_of (State.descOf_of_some hd), need_bind _ hcode]
  rfl

/-- A far JMP through a call gate to a segment of the current level (R316). -/
theorem State.jumpGate_of (h : CallGateFor s sel g d) (hlevel : OfLevel s d) : s.jumpGate sel g =
    .ok (jumped (s.setSeg .cs (d.toSeg (withRpl g.gateSel s.cpl))) g.gateOffset) := by
  obtain ⟨-, -, -, -, -, -, -, -, -, -, hpresent, -⟩ := id h
  rw [State.jumpGate, Res.bind_of (State.checkGate_of h), Res.bind_of (State.gateCode_of h),
    need_bind _ (ofLevel_iff.2 hlevel), need_bind _ hpresent]
  exact State.jumpCode_of h.offset_le

/-- A far CALL through a call gate to a segment of the current level runs at the gate's size (R234). -/
theorem State.callGate_of (h : CallGateFor s sel g d) (hlevel : OfLevel s d) : s.callGate sel g =
    s.callCode g.gateSize (d.toSeg (withRpl g.gateSel s.cpl)) g.gateOffset := by
  obtain ⟨-, -, -, -, -, -, -, -, -, -, hpresent, -⟩ := id h
  have hsame : ¬ (!d.ce && decide (d.dpl < s.cpl)) = true := by
    rw [Bool.and_eq_true, decide_eq_true_eq, Bool.not_eq_true']
    rintro ⟨hce, hlt⟩
    rw [OfLevel, hce, if_neg Bool.false_ne_true] at hlevel
    exact BitVec.ne_of_lt hlt hlevel
  rw [State.callGate, Res.bind_of (State.checkGate_of h), Res.bind_of (State.gateCode_of h),
    need_bind _ (decide_eq_true (dpl_le_of_ofLevel hlevel)), need_bind _ hpresent, if_neg hsame]

/-- In Protected Mode a store of `n` bytes below the top of the stack passes its check only where a far CALL finds room
for them. -/
theorem State.stackRoom_of_accessOk {n : Nat} (hp : s.protectedMode = true)
    (h : s.accessOk .ss (s.pushOffset n) n true = true) : s.segs.ss.stackRoom (s.eReg s.stackSize .esp) n = true := by
  obtain ⟨hroom, -⟩ := Bool.and_eq_true_iff.1 h
  have hsize : s.stackSize = sizeOf32 s.segs.ss.db := by rw [State.stackSize, hp, Bool.true_and]
  rw [State.pushOffset, hsize] at hroom
  rw [hsize]
  exact hroom

theorem State.accessOk_of_le {r : SReg} {m n : Nat} {write : Bool} (h : s.accessOk r off n write = true)
    (hmn : m ≤ n) : s.accessOk r off m write = true := by
  simp only [State.accessOk, Bool.and_eq_true] at h ⊢
  obtain ⟨⟨hvalid, hlimit⟩, hright⟩ := h
  exact ⟨⟨hvalid, SegReg.inLimit_of_le hlimit hmn⟩, hright⟩

/-- A far RET to the current level whose checks pass (R412). -/
theorem State.retFar_same (hp : s.protectedMode = true) (hrpl : rpl sel = s.cpl)
    (hsel : s.memRead .ss .w16 (addOffset s.stackSize (s.eReg s.stackSize .esp) (BitVec.ofNat 32 s.opSize.bytes)) =
      .ok sel)
    (hip : s.stackItem s.opSize 0 = .ok off) (hd : ReturnsTo s sel d) (hoff : off ≤ d.limit) :
    s.retFar imm = .ok (jumped ((s.dropStack (BitVec.ofNat 32 (2 * s.opSize.bytes) + imm.setWidth 32)).setSeg .cs
      (d.toSeg sel)) off) := by
  rw [State.retFar, if_pos hp, Res.bind_of hsel, need_bind _ (by simp [hrpl]), if_pos (by simp [hrpl]),
    State.retFarSame, Res.bind_of (State.checkReturnCs_of hd), Res.bind_of hip, need_bind _ (SegReg.ipOk_of hoff)]
  rfl

end FarChecks

/-- Settles O33: reading the descriptor (`State.farDesc_null`, `State.farDesc_beyondTable`) and then the checks of a code
segment (`State.checkCode_refused`, `State.checkCode_absent`) raise for JMP and CALL alike. -/
theorem farJumpChecksRaiseTheirExceptions : Obligations.FarJumpChecksRaiseTheirExceptions := by
  refine fun s o sel hs hp => ⟨fun hsel => ?_, fun hsel hd => ?_, fun d hsel hd => ⟨fun i hi => ?_, ?_⟩⟩
  · exact farTransfer_raises hs (farTransfer_of_farDesc_raise hp (State.farDesc_null hsel))
  · exact farTransfer_raises hs (farTransfer_of_farDesc_raise hp (State.farDesc_beyondTable hsel hd))
  · have hfar := State.farDesc_of hsel hd
    have hraise {x : Exc} (hcode : d.isCode = true) (hx : s.checkCode sel d = raise x) : Raises i s x :=
      farTransfer_raises hs (farTransfer_to_code_raise hp hfar hcode hx) i hi
    refine ⟨fun hdata => ?_, fun hcode hce hdpl => ?_, fun hcode hce hbad => ?_,
      fun hcode hce hrpl hdpl hpresent => ?_, fun hcode hce hdpl hpresent => ?_⟩
    · exact farTransfer_raises hs (farTransfer_to_data_raise hp hfar hdata) i hi
    · exact hraise hcode (State.checkCode_refused fun ⟨_, hlevel⟩ =>
        BitVec.not_le.2 hdpl (dpl_le_of_ofLevel hlevel))
    · refine hraise hcode (State.checkCode_refused ?_)
      simpa [OfLevel, hce, imp_iff_not_or, BitVec.not_le] using hbad
    · exact hraise hcode (State.checkCode_absent (.inr hrpl) (by simpa [OfLevel, hce] using hdpl) hpresent)
    · exact hraise hcode (State.checkCode_absent (.inl hce) (by simpa [OfLevel, hce] using hdpl) hpresent)
  · intro hcode hce hrpl hdpl hpresent hoff
    refine (exec_jmpFar s o sel).trans (perform_plain_raise hs ?_)
    obtain ⟨hjmp, -⟩ := farTransfer_to_code (off := o.zext) hp (State.farDesc_of hsel hd) hcode
    rw [hjmp, Res.bind_of (State.checkCode_of (.inr hrpl) (by simpa [OfLevel, hce] using hdpl) hpresent)]
    exact State.jumpCode_beyond hoff

/-- Settles O32: after the checks of the code segment (`State.checkCode_of`) or of the gate (`farTransfer_to_callGate`)
JMP is `State.jumpCode_of` and CALL `State.callCode_of`; RET is `State.retFar_same`. -/
theorem protectedFarTransfersAtOneLevel : Obligations.ProtectedFarTransfersAtOneLevel := by
  refine ⟨fun s off sel d hs hp hd hsel hcode hlevel hpresent hoff => ?_,
    fun s i off sel g d hs hp hgate hlevel => ⟨fun hi => ?_, fun hi hpg hstack hroom => ?_⟩⟩
  · obtain ⟨hjmp, hcall⟩ := farTransfer_to_code (off := off) hp (State.farDesc_of hsel hd) hcode
    refine ⟨fun hrpl i hi => ?_, fun hrpl i hi hpg hboth hfirst => ?_, fun hrpl i imm hi hip hcs => ?_⟩
    · rw [exec_farJmp hs hi, hjmp, Res.bind_of (State.checkCode_of hrpl hlevel hpresent), State.jumpCode_of hoff]
      rfl
    · obtain ⟨u, hu, hall⟩ := State.callCode_of (cs := d.toSeg (withRpl sel s.cpl)) hpg
        (State.stackRoom_of_accessOk hp hboth)
        (room_two hfirst (State.accessOk_of_le hboth (Nat.le_mul_of_pos_left _ Nat.two_pos))) hoff
      obtain ⟨t, x, ht, hx, htu⟩ := pushedAll_returnAddress hall
      refine ⟨t, u, x, ?_, ht, hx, htu⟩
      rw [exec_farCall hs hi, hcall, Res.bind_of (State.checkCode_of hrpl hlevel hpresent), hu]
      rfl
    · have hreturns : ReturnsTo s sel d := ⟨hsel, hd, hcode, hpresent, by rw [hrpl]; exact hlevel⟩
      rw [exec_retFar_of hs hi, State.retFar_same hp hrpl hcs hip hreturns hoff]
      rfl
  · obtain ⟨hjmp, -⟩ := farTransfer_to_callGate (off := off) hp hgate
    rw [exec_farJmp hs hi, hjmp, State.jumpGate_of hgate hlevel]
    rfl
  · obtain ⟨-, hcall⟩ := farTransfer_to_callGate (off := off) hp hgate
    obtain ⟨u, hu, hall⟩ := State.callCode_of (cs := d.toSeg (withRpl g.gateSel s.cpl)) hpg hstack hroom hgate.offset_le
    refine ⟨u, ?_, hall⟩
    rw [exec_farCall hs hi, hcall, State.callGate_of hgate hlevel, hu]
    rfl

end Sys2Proof.Machine

/-! PROOFS. O44, O48: LGDT, LIDT, LLDT and LTR, and the prefixes of the LOCK and repeat group. For O44 the operand comes
first, then the checks of a system descriptor, then the busy bit that LTR stores; for O48 the prefixes that each
instruction takes. -/

namespace Sys2Proof.Machine

open Claims (Raises baseBits bitImmForm bitRegForm lockable repForms repeForms rmForms)

/-! ### The operand of a load at level 0 -/

section SystemOperands

variable {s : State} {rm : RM} {sel : BitVec 16} {ea : EA} {bs : List Byte}

theorem State.needCpl0_of (h : s.cpl = 0) : s.needCpl0 = .ok () := need_ok.2 (beq_iff_eq.2 h)

theorem tableBase_opSize (b : BitVec 32) : tableBase s.opSize b = baseBits s b := by
  unfold tableBase baseBits
  cases s.opSize <;> rfl

/-- LGDT and LIDT take a limit and a base from six bytes that can be read (R334). -/
theorem State.loadTable_of (hcpl : s.cpl = 0) (hbs : s.memBytesAt (s.eaSeg ea) (s.eaOff ea) 6 = .ok bs) :
    s.loadTable (.mem ea) = .ok { limit := BitVec.ofNat 16 (leNat (bs.take 2))
                                  base := baseBits s (BitVec.ofNat 32 (leNat (bs.drop 2))) } := by
  rw [State.loadTable, needMem, Res.bind_of (a := ea) rfl, Res.bind_of (State.needCpl0_of hcpl), Res.bind_of hbs,
    tableBase_opSize]
  rfl

/-- In Protected Mode at level 0 LLDT and LTR read their selector (R341, R347). -/
theorem State.systemOperand_of (hp : s.protectedMode = true) (hcpl : s.cpl = 0) (hsel : s.readRM .w16 rm = .ok sel) :
    s.systemOperand rm = .ok sel := by
  rw [State.systemOperand, Res.bind_of (State.needProtected_of hp), Res.bind_of (State.needCpl0_of hcpl)]
  exact hsel

end SystemOperands

/-! ### The checks of a system descriptor -/

section SystemDescriptors

variable {s : State} {rm : RM} {sel : BitVec 16} {d : Desc}

theorem State.loadLdt_null (hrm : s.systemOperand rm = .ok sel) (h0 : sel &&& 0xFFFC = 0) :
    s.loadLdt rm = .ok { s with tables := { s.tables with ldtr := SysReg.null sel } } := by
  rw [State.loadLdt, Res.bind_of hrm, if_pos (isNull_iff.2 h0)]
  rfl

theorem State.loadTr_null (hrm : s.systemOperand rm = .ok sel) (h0 : sel &&& 0xFFFC = 0) :
    s.loadTr rm = raise (excGP 0) := by
  rw [State.loadTr, Res.bind_of hrm, isNull_iff.2 h0]
  rfl

/-- LLDT on a descriptor of the GDT: its type, then its present bit, then the load (R341). -/
theorem State.loadLdt_desc (hrm : s.systemOperand rm = .ok sel) (h0 : sel &&& 0xFFFC ≠ 0)
    (hglobal : sel.getLsbD 2 = false) (hd : s.descOf? sel = .ok (some d)) :
    s.loadLdt rm =
      if d.isSeg = false ∧ d.typ ∈ [(2 : BitVec 4)] then
        if d.present then .ok { s with tables := { s.tables with ldtr := d.toSys sel } }
        else raise (excNP (sel &&& 0xFFFC))
      else raise (excGP (sel &&& 0xFFFC)) := by
  rw [State.loadLdt, Res.bind_of hrm, if_neg (mt isNull_iff.1 h0), need_bind _ (by simpa [isLocal] using hglobal),
    Res.bind_of (State.descOf_of_some hd)]
  simp only [need_bind_eq_ite, Desc.isSys_iff, selCode]
  rfl

/-- LTR on a descriptor of the GDT: its type, then its present bit, then the busy bit and the load (R347). -/
theorem State.loadTr_desc (hrm : s.systemOperand rm = .ok sel) (h0 : sel &&& 0xFFFC ≠ 0)
    (hglobal : sel.getLsbD 2 = false) (hd : s.descOf? sel = .ok (some d)) :
    s.loadTr rm =
      if d.isSeg = false ∧ d.typ ∈ [(1 : BitVec 4), 9] then
        if d.present then
          s.linWriteBytes false (s.tables.gdtr.base + (sel &&& 0xFFF8).setWidth 32 + 5) [d.busyByte] >>= fun t =>
          pure { t with tables := { t.tables with tr := d.toSys sel } }
        else raise (excNP (sel &&& 0xFFFC))
      else raise (excGP (sel &&& 0xFFFC)) := by
  rw [State.loadTr, Res.bind_of hrm, need_bind _ (not_isNull h0), need_bind _ (by simpa [isLocal] using hglobal),
    Res.bind_of (State.descOf_of_some hd)]
  simp only [need_bind_eq_ite, Desc.isSys_iff, selCode]

/-- An available task state segment is of the 80386 exactly where its type is 9 (R111). -/
theorem Desc.is386_of_tss (h : d.typ = 1 ∨ d.typ = 9) : d.is386 = (d.typ == 9) := by
  have hbit : d.is386 = d.typ.getLsbD 3 := by simp [Desc.is386, Desc.typ]
  obtain h | h := h <;> rw [hbit, h] <;> rfl

end SystemDescriptors

/-! ### The busy bit -/

section BusyBit

variable {s : State} {p : Nat} {lin : BitVec 32} {user : Bool} {v : Byte} {d : Desc}

/-- A byte other than what unlisted bytes read as is read back from every memory, of canonical form or not. -/
theorem memByte_memSet_listed (m : Memory) (a : Nat) (hv : v ≠ unlistedByte) : memByte (memSet m a v) a = v := by
  induction m with
  | nil => simp [memSet, memByte, hv]
  | cons c t ih =>
    obtain ⟨k, b⟩ := c
    rw [memSet, if_neg hv, if_neg hv]
    split
    · simp [memByte]
    split
    · simp [memByte]
    · next hne => rw [memByte, if_neg hne, ih]

/-- The bit that makes a task state segment busy is set in the stored byte, which so is no unlisted byte. -/
theorem Desc.busyByte_listed (d : Desc) : d.busyByte ≠ unlistedByte := by
  intro h
  have hbit : d.busyByte.getLsbD 1 = true := by simp [Desc.busyByte]
  rw [h] at hbit
  cases hbit

theorem State.linWriteBytes_singleton (hp : s.physAddr .write user lin = .ok p) :
    s.linWriteBytes user lin [v] = .ok { s.noteStores 1 lin with mem := memSet s.mem p v } := by
  simp [State.linWriteBytes, State.physAddrs, hp, memSetBytes]

end BusyBit

/-- Settles O44: LGDT and LIDT load what `State.loadTable_of` reads; LLDT and LTR make the checks of
`State.loadLdt_desc` and `State.loadTr_desc`, and LTR stores one byte (`memByte_memSet_listed`). -/
theorem systemRegisterLoads : Obligations.SystemRegisterLoads := by
  refine fun s hs hcpl => ⟨fun ea bs hbs => ⟨?_, ?_⟩, fun q => ⟨?_, ?_⟩, fun rm sel hp hsel => ?_⟩
  · exact (exec_lgdt s _).trans (perform_plain hs (by rw [State.loadGdt, State.loadTable_of hcpl hbs]))
  · exact (exec_lidt s _).trans (perform_plain hs (by rw [State.loadIdt, State.loadTable_of hcpl hbs]))
  · exact (exec_lgdt s _).trans (perform_plain_raise hs rfl)
  · exact (exec_lidt s _).trans (perform_plain_raise hs rfl)
  have hrm := State.systemOperand_of hp hcpl hsel
  refine ⟨fun h0 => ⟨⟨SysReg.null sel, ?_, rfl, rfl⟩, ?_⟩, fun d h0 hglobal hd => ?_⟩
  · exact (exec_lldt s rm).trans (perform_plain hs (State.loadLdt_null hrm h0))
  · exact (exec_ltr s rm).trans (perform_plain_raise hs (State.loadTr_null hrm h0))
  have hldt := State.loadLdt_desc hrm h0 hglobal hd
  have htr := State.loadTr_desc hrm h0 hglobal hd
  simp only [List.mem_cons, List.not_mem_nil, or_false] at hldt htr
  refine ⟨fun hsys htyp hpresent => ?_, fun htyp => ?_, fun hsys htyp hpresent => ?_,
    fun p hsys htyp hpresent haddr => ?_, fun htyp => ?_, fun hsys htyp hpresent => ?_⟩
  · rw [if_pos ⟨hsys, htyp⟩, if_pos hpresent] at hldt
    exact ⟨_, (exec_lldt s rm).trans (perform_plain hs hldt), rfl, rfl, rfl, d.limit_toNat⟩
  · rw [if_neg htyp] at hldt
    exact (exec_lldt s rm).trans (perform_plain_raise hs hldt)
  · rw [if_pos ⟨hsys, htyp⟩, if_neg (Bool.eq_false_iff.1 hpresent)] at hldt
    exact (exec_lldt s rm).trans (perform_plain_raise hs hldt)
  · rw [if_pos ⟨hsys, htyp⟩, if_pos hpresent, Res.bind_of (State.linWriteBytes_singleton haddr)] at htr
    refine ⟨_, d.toSys sel, (exec_ltr s rm).trans (perform_plain hs htr), by simp, rfl, rfl, rfl, d.limit_toNat,
      Desc.is386_of_tss htyp, by simp, by simp, ?_, memByte_memSet_listed _ _ d.busyByte_listed,
      fun a ha => memByte_memSet_other _ _ ha⟩
    exact ⟨by simp, by simp, rfl, by simp, by simp, by simp, State.noteStores_seq _ _ _⟩
  · rw [if_neg htyp] at htr
    exact (exec_ltr s rm).trans (perform_plain_raise hs htr)
  · rw [if_pos ⟨hsys, htyp⟩, if_neg (Bool.eq_false_iff.1 hpresent)] at htr
    exact (exec_ltr s rm).trans (perform_plain_raise hs htr)

/-! ### The prefixes that an instruction takes -/

/-- The prefixes of the LOCK and repeat group that an instruction takes (R343, R408), as the first argument of the
`perform` that runs it (`exec_eq_perform`). -/
def groupRule : Instr → GroupRule
  | .addRm8R8 rm _ | .addRmvRv rm _ | .addRm8Imm8 rm _ | .addRmvImmv rm _ | .addRmvImm8 rm _
  | .orRm8R8 rm _ | .orRmvRv rm _ | .orRm8Imm8 rm _ | .orRmvImmv rm _ | .orRmvImm8 rm _
  | .adcRm8R8 rm _ | .adcRmvRv rm _ | .adcRm8Imm8 rm _ | .adcRmvImmv rm _ | .adcRmvImm8 rm _
  | .sbbRm8R8 rm _ | .sbbRmvRv rm _ | .sbbRm8Imm8 rm _ | .sbbRmvImmv rm _ | .sbbRmvImm8 rm _
  | .andRm8R8 rm _ | .andRmvRv rm _ | .andRm8Imm8 rm _ | .andRmvImmv rm _ | .andRmvImm8 rm _
  | .subRm8R8 rm _ | .subRmvRv rm _ | .subRm8Imm8 rm _ | .subRmvImmv rm _ | .subRmvImm8 rm _
  | .xorRm8R8 rm _ | .xorRmvRv rm _ | .xorRm8Imm8 rm _ | .xorRmvImmv rm _ | .xorRmvImm8 rm _
  | .btRmvImm8 rm _ | .btsRmvImm8 rm _ | .btrRmvImm8 rm _ | .btcRmvImm8 rm _
  | .btRmvRv rm _ | .btsRmvRv rm _ | .btrRmvRv rm _ | .btcRmvRv rm _
  | .incRm8 rm | .incRmv rm | .decRm8 rm | .decRmv rm | .notRm8 rm | .notRmv rm | .negRm8 rm | .negRmv rm
  | .xchgRm8R8 rm _ | .xchgRmvRv rm _ => .lockMem rm
  | .movsB | .movsV | .stosB | .stosV | .lodsB | .lodsV | .insB | .insV | .outsB | .outsV => .repOnly
  | .cmpsB | .cmpsV | .scasB | .scasV => .repBoth
  | _ => .none

section GroupPrefixes

variable {s : State} {i : Instr} {ea : EA} {rule : GroupRule}

/-- Every instruction but the prefixes themselves runs its meaning under its rule. -/
theorem exec_eq_perform (hi : isPrefixRow i = false) : ∃ body, ∀ s, exec i s = perform (groupRule i) s body := by
  unfold exec
  cases i with
  | segEs | segCs | segSs | segDs | segFs | segGs | opsize | addrsize | lock | repne | rep =>
    simp [isPrefixRow, prefixRows] at hi
  | _ => exact ⟨_, fun _ => rfl⟩

/-- LOCK, REP and REPNE raise #UD before an instruction whose rule does not allow them (R343, R408). -/
theorem raises_ud_of_not_allows {g : GroupPrefix} (hi : isPrefixRow i = false) (hg : s.seq.pfx.group = some g)
    (h : ¬ (groupRule i).allows (some g) = true) : Raises i s excUD := by
  obtain ⟨body, hbody⟩ := exec_eq_perform hi
  exact (hbody s).trans (perform_ud (by rw [hg, Bool.eq_false_iff.2 h]))

theorem GroupRule.allows_lock (h : rule.allows (some .lock) = true) : ∃ ea, rule = .lockMem (.mem ea) := by
  cases rule with
  | lockMem dest =>
    cases dest with
    | reg q => cases h
    | mem ea => exact ⟨ea, rfl⟩
  | none | repOnly | repBoth => cases h

theorem GroupRule.allows_rep (h : rule.allows (some .rep) = true) : rule = .repOnly ∨ rule = .repBoth := by
  cases rule with
  | repOnly => exact .inl rfl
  | repBoth => exact .inr rfl
  | none => cases h
  | lockMem dest => cases dest <;> cases h

theorem GroupRule.allows_repne (h : rule.allows (some .repne) = true) : rule = .repBoth := by
  cases rule with
  | repBoth => rfl
  | none | repOnly => cases h
  | lockMem dest => cases dest <;> cases h

/-- An instruction that takes LOCK on a memory destination is in its list (R343). The cases are by its operands. -/
theorem mem_lockable (h : groupRule i = .lockMem (.mem ea)) : ∃ r i8 iv, i ∈ lockable s ea r i8 iv := by
  cases i with
  | addRm8R8 rm r | addRmvRv rm r | orRm8R8 rm r | orRmvRv rm r | adcRm8R8 rm r | adcRmvRv rm r | sbbRm8R8 rm r
  | sbbRmvRv rm r | andRm8R8 rm r | andRmvRv rm r | subRm8R8 rm r | subRmvRv rm r | xorRm8R8 rm r | xorRmvRv rm r
  | btRmvRv rm r | btsRmvRv rm r | btrRmvRv rm r | btcRmvRv rm r | xchgRm8R8 rm r | xchgRmvRv rm r =>
    cases h
    exact ⟨r, 0, .w16 0, by simp [lockable, rmForms, bitImmForm, bitRegForm]⟩
  | addRm8Imm8 rm i8 | addRmvImm8 rm i8 | orRm8Imm8 rm i8 | orRmvImm8 rm i8 | adcRm8Imm8 rm i8 | adcRmvImm8 rm i8
  | sbbRm8Imm8 rm i8 | sbbRmvImm8 rm i8 | andRm8Imm8 rm i8 | andRmvImm8 rm i8 | subRm8Imm8 rm i8 | subRmvImm8 rm i8
  | xorRm8Imm8 rm i8 | xorRmvImm8 rm i8 | btRmvImm8 rm i8 | btsRmvImm8 rm i8 | btrRmvImm8 rm i8 | btcRmvImm8 rm i8 =>
    cases h
    exact ⟨.eax, i8, .w16 0, by simp [lockable, rmForms, bitImmForm, bitRegForm]⟩
  | addRmvImmv rm iv | orRmvImmv rm iv | adcRmvImmv rm iv | sbbRmvImmv rm iv | andRmvImmv rm iv | subRmvImmv rm iv
  | xorRmvImmv rm iv =>
    cases h
    exact ⟨.eax, 0, iv, by simp [lockable, rmForms]⟩
  | incRm8 rm | incRmv rm | decRm8 rm | decRmv rm | notRm8 rm | notRmv rm | negRm8 rm | negRmv rm =>
    cases h
    exact ⟨.eax, 0, .w16 0, by simp [lockable]⟩
  | _ => cases h

theorem mem_repForms (h : groupRule i = .repOnly) : ∃ j ∈ repForms s, i = j.1 := by
  cases i with
  | movsB | movsV | stosB | stosV | lodsB | lodsV | insB | insV | outsB | outsV => simp [repForms]
  | _ => cases h

theorem mem_repeForms (h : groupRule i = .repBoth) : ∃ j ∈ repeForms s, i = j.1 := by
  cases i with
  | cmpsB | cmpsV | scasB | scasV => simp [repeForms]
  | _ => cases h

end GroupPrefixes

/-- Settles O48: all but the prefixes themselves run under a rule (`raises_ud_of_not_allows`), and those whose rule
allows LOCK, REP or REPNE are the lists of the statement (`mem_lockable`, `mem_repForms`, `mem_repeForms`). -/
theorem misusedPrefixesAreUndefinedOpcodes : Obligations.MisusedPrefixesAreUndefinedOpcodes := by
  refine fun s i hi => ⟨fun hg hlist => ?_, fun hg hlist => ?_, fun hg hlist => ?_⟩
  · refine raises_ud_of_not_allows hi hg fun hallows => ?_
    obtain ⟨ea, hrule⟩ := GroupRule.allows_lock hallows
    obtain ⟨r, i8, iv, hmem⟩ := mem_lockable (s := s) hrule
    exact hlist ea r i8 iv hmem
  · refine raises_ud_of_not_allows hi hg fun hallows => ?_
    obtain hrule | hrule := GroupRule.allows_rep hallows
    · obtain ⟨j, hj, hij⟩ := mem_repForms (s := s) hrule
      exact hlist j (List.mem_append_left _ hj) hij
    · obtain ⟨j, hj, hij⟩ := mem_repeForms (s := s) hrule
      exact hlist j (List.mem_append_right _ hj) hij
  · refine raises_ud_of_not_allows hi hg fun hallows => ?_
    obtain ⟨j, hj, hij⟩ := mem_repeForms (s := s) (GroupRule.allows_repne hallows)
    exact hlist j hj hij

end Sys2Proof.Machine

/-! PROOFS. O14, O15, O11: MOV and the other loads and stores of one operand, and the multiplications. -/

namespace Sys2Proof.Machine

open Claims (Loads OnlyAccumulator imulForms storeForms)

/-! ### Stores -/

section Stores

variable {s u : State} {w : Width} {rm : RM} {r : Reg} {i8 : BitVec 8} {iv off : VImm}

theorem FlagsOnly.refl : FlagsOnly s s := .of_eq rfl rfl

theorem exec_storeForms : ∀ i ∈ storeForms s rm r i8 iv,
    exec i.instr s = perform .none s fun _ => s.writeRM i.width rm i.src := by
  simp only [storeForms, List.forall_mem_cons]
  exact ⟨(exec_movRm8R8 s rm r).trans (perform_const_body _ s _),
    (exec_movRmvRv s rm r).trans (perform_const_body _ s _),
    (exec_movRm8Imm8 s rm i8).trans (perform_const_body _ s _),
    (exec_movRmvImmv s rm iv).trans (perform_const_body _ s _), List.forall_mem_nil _⟩

theorem exec_moffsStores : ∀ i ∈ [(Instr.movMoffsAl off, Width.b8), (.movMoffsEax off, s.opSize.width)],
    exec i.1 s = perform .none s fun _ => s.storeMoffs i.2 off := by
  simp only [List.forall_mem_cons]
  exact ⟨(exec_movMoffsAl s off).trans (perform_const_body _ s _),
    (exec_movMoffsEax s off).trans (perform_const_body _ s _), List.forall_mem_nil _⟩

end Stores

/-- Settles O14: each form is one store, which takes place where its write check passes
(`FlagsOnly.writeRM_of_check`, `FlagsOnly.memWrite_of_check`). -/
theorem movesStoreTheirSource : Obligations.MovesStoreTheirSource := by
  refine fun s hs => ⟨fun rm r i8 iv i hi hcheck => ?_, fun off i hi hcheck => ?_⟩
  · obtain ⟨t, ht, hstores, hkept, hflags⟩ := FlagsOnly.refl.writeRM_of_check hcheck i.src
    exact ⟨t, (exec_storeForms i hi).trans (perform_plain hs ht), hstores, hflags, hkept⟩
  · obtain ⟨t, ht, hstores, hgpr, hflags, hkept⟩ := FlagsOnly.refl.memWrite_of_check hcheck (s.reg i.2 .eax)
    exact ⟨t, (exec_moffsStores i hi).trans (perform_plain hs ht), hstores, hgpr, hflags, hkept⟩

/-! ### Loads -/

section Loads

variable {s : State} {w : Width} {rm : RM} {r : Reg} {i8 : BitVec 8} {iv off : VImm}

/-- All that writing one register does. -/
theorem State.setReg_loads (v : BitVec w.bits) : Loads s (s.setReg w r v) w r v :=
  have h : FlagsOnly s s := .refl
  ⟨rfl, rfl, h.setReg_kept, h.setReg_sameMem⟩

theorem State.loadReg_of {a : BitVec w.bits} (h : s.readRM w rm = .ok a) : s.loadReg w r rm = .ok (s.setReg w r a) := by
  rw [State.loadReg, h]

theorem State.loadExt_of {v : Width} {a : BitVec w.bits} (h : s.readRM w rm = .ok a)
    (f : BitVec w.bits → BitVec v.bits) : s.loadExt w v r rm f = .ok (s.setReg v r (f a)) := by
  rw [State.loadExt, h]

theorem State.loadMoffs_of {a : BitVec w.bits} (h : s.memRead (s.dataSeg .ds) w off.zext = .ok a) :
    s.loadMoffs w off = .ok (s.setReg w .eax a) := by
  rw [State.loadMoffs, h]

theorem exec_loadForms : ∀ i ∈ [(Instr.movR8Rm8 r rm, Width.b8), (.movRvRmv r rm, s.opSize.width)],
    exec i.1 s = perform .none s fun _ => s.loadReg i.2 r rm := by
  simp only [List.forall_mem_cons]
  exact ⟨(exec_movR8Rm8 s r rm).trans (perform_const_body _ s _),
    (exec_movRvRmv s r rm).trans (perform_const_body _ s _), List.forall_mem_nil _⟩

theorem exec_moffsLoads : ∀ i ∈ [(Instr.movAlMoffs off, Width.b8), (.movEaxMoffs off, s.opSize.width)],
    exec i.1 s = perform .none s fun _ => s.loadMoffs i.2 off := by
  simp only [List.forall_mem_cons]
  exact ⟨(exec_movAlMoffs s off).trans (perform_const_body _ s _),
    (exec_movEaxMoffs s off).trans (perform_const_body _ s _), List.forall_mem_nil _⟩

theorem exec_movzxForms : ∀ i ∈ [(Instr.movzxRm8 r rm, Width.b8), (.movzxRm16 r rm, .w16)],
    exec i.1 s = perform .none s fun _ => s.loadExt i.2 s.opSize.width r rm fun v => v.setWidth _ := by
  simp only [List.forall_mem_cons]
  exact ⟨(exec_movzxRm8 s r rm).trans (perform_const_body _ s _),
    (exec_movzxRm16 s r rm).trans (perform_const_body _ s _), List.forall_mem_nil _⟩

theorem exec_movsxForms : ∀ i ∈ [(Instr.movsxRm8 r rm, Width.b8), (.movsxRm16 r rm, .w16)],
    exec i.1 s = perform .none s fun _ => s.loadExt i.2 s.opSize.width r rm fun v => v.signExtend _ := by
  simp only [List.forall_mem_cons]
  exact ⟨(exec_movsxRm8 s r rm).trans (perform_const_body _ s _),
    (exec_movsxRm16 s r rm).trans (perform_const_body _ s _), List.forall_mem_nil _⟩

/-- A source of 8 or 16 bits is no wider than the operand size. -/
theorem extended_bits_le (z : Size) {i : Instr × Width} {a b : Instr} (hi : i ∈ [(a, Width.b8), (b, .w16)]) :
    i.2.bits ≤ z.width.bits := by
  have hz : 16 ≤ z.width.bits := by cases z <;> decide
  simp only [List.mem_cons, List.not_mem_nil, or_false] at hi
  obtain rfl | rfl := hi
  · exact le_trans (by decide : 8 ≤ 16) hz
  · exact hz

/-- CBW and CWDE load the half of the accumulator below the operand size, sign-extended (R240). -/
theorem State.cbw_loads : ∃ x, Loads s s.cbw s.opSize.width .eax x ∧
    x.toInt = if s.opSize = .s16 then (s.reg .b8 .eax).toInt else (s.reg .w16 .eax).toInt := by
  rw [State.cbw]
  cases s.opSize with
  | s16 => exact ⟨_, State.setReg_loads _, BitVec.toInt_signExtend_of_le (by decide)⟩
  | s32 => exact ⟨_, State.setReg_loads _, BitVec.toInt_signExtend_of_le (by decide)⟩

/-- The sign of a value in every bit of another (R248). -/
theorem toInt_signBits {n : Nat} (hn : 0 < n) (v : BitVec n) :
    (if v.msb then BitVec.allOnes n else 0).toInt = if v.toInt < 0 then -1 else 0 := by
  simp only [msb_iff_toInt_neg]
  split
  · rw [BitVec.toInt_allOnes, if_pos hn]
  · exact BitVec.toInt_zero

end Loads

/-- Settles O15: every load writes one register (`State.setReg_loads`); zero extension keeps the value as a natural
number, sign extension as an integer. -/
theorem loadsWriteOneRegister : Obligations.LoadsWriteOneRegister := by
  refine fun s hs => ⟨fun r rm i hi a ha => ?_, fun r i8 iv => ⟨?_, ?_⟩, fun off i hi a ha => ?_,
    fun r rm i hi a ha => ?_, fun r rm i hi a ha => ?_, fun r ea => ?_, fun a ha => ?_, ?_, ?_⟩
  · exact ⟨_, (exec_loadForms i hi).trans (perform_plain hs (State.loadReg_of ha)), State.setReg_loads a⟩
  · exact ⟨_, (exec_movR8Imm8 s r i8).trans (perform_plain hs rfl), State.setReg_loads (w := .b8) i8⟩
  · exact ⟨_, (exec_movRvImmv s r iv).trans (perform_plain hs rfl), State.setReg_loads _⟩
  · exact ⟨_, (exec_moffsLoads i hi).trans (perform_plain hs (State.loadMoffs_of ha)), State.setReg_loads a⟩
  · exact ⟨_, _, (exec_movzxForms i hi).trans (perform_plain hs (State.loadExt_of ha _)), State.setReg_loads _,
      BitVec.toNat_setWidth_of_le (extended_bits_le _ hi)⟩
  · exact ⟨_, _, (exec_movsxForms i hi).trans (perform_plain hs (State.loadExt_of ha _)), State.setReg_loads _,
      BitVec.toInt_signExtend_of_le (extended_bits_le _ hi)⟩
  · exact ⟨_, _, (exec_lea s r (.mem ea)).trans (perform_plain hs rfl), State.setReg_loads _, rfl⟩
  · exact ⟨_, (exec_xlat s).trans (perform_plain hs (by rw [State.xlat, ha])), State.setReg_loads a⟩
  · obtain ⟨x, hloads, hx⟩ := State.cbw_loads (s := s)
    exact ⟨_, x, (exec_cbw s).trans (perform_plain hs rfl), hloads, hx⟩
  · exact ⟨_, _, (exec_cwd s).trans (perform_plain hs rfl), State.setReg_loads _,
      toInt_signBits (Width.bits_pos _) _⟩

/-! ### Multiplications -/

section Multiplications

variable {s u : State} {w : Width} {rm : RM} {r : Reg} {i8 : BitVec 8} {iv : VImm} {p : Nat} {big : Bool}

/-- The product of a word or a doubleword goes where a division puts quotient and remainder. -/
theorem State.setProduct_wide (hw : w ≠ .b8) :
    s.setProduct w p = s.setQuotRem w (BitVec.ofNat _ p) (BitVec.ofNat _ (p / 2 ^ w.bits)) := by
  cases w with
  | b8 => exact absurd rfl hw
  | w16 | d32 => rfl

theorem State.dividend_wide (hw : w ≠ .b8) :
    s.dividend w = (s.reg w (Claims.remReg w)).toNat * 2 ^ w.bits + (s.reg w .eax).toNat := by
  cases w with
  | b8 => exact absurd rfl hw
  | w16 | d32 => rfl

theorem State.setProduct_byte_ax : (s.setProduct .b8 p).reg .w16 .eax = BitVec.ofNat 16 p :=
  Gpr.read_write_same (w := .w16) (r := .eax) s.gpr (BitVec.ofNat 16 p)

/-- AL is the low byte of AX (R30). -/
theorem State.reg_al : s.reg .b8 .eax = (s.reg .w16 .eax).setWidth 8 := by
  ext j hj
  have hj16 : j < Width.w16.bits := Nat.lt_trans hj (by decide)
  simp [State.reg, Gpr.read, Reg.byteHome, Reg.isHigh, hj16]

/-- A double-width value is the upper half of it over the lower. -/
theorem ofNat_halves {n : Nat} (hp : p < 2 ^ (2 * n)) :
    (BitVec.ofNat n (p / 2 ^ n)).toNat * 2 ^ n + (BitVec.ofNat n p).toNat = p := by
  have hupper : p / 2 ^ n < 2 ^ n := Nat.div_lt_of_lt_mul (by rwa [← Nat.pow_add, ← Nat.two_mul])
  rw [BitVec.toNat_ofNat, BitVec.toNat_ofNat, Nat.mod_eq_of_lt hupper, Nat.div_add_mod']

/-- A product that fits in twice the width is read back whole. -/
theorem State.setProduct_dividend (hp : p < 2 ^ (2 * w.bits)) : (s.setProduct w p).dividend w = p := by
  by_cases hw : w = .b8
  · subst hw
    rw [State.dividend, State.setProduct_byte_ax]
    exact (BitVec.toNat_ofNat _ _).trans (Nat.mod_eq_of_lt hp)
  · rw [State.setProduct_wide hw, State.dividend_wide hw, State.setQuotRem_rem, State.setQuotRem_quot, ofNat_halves hp]

/-- The accumulator holds the lower half of the product. -/
theorem State.setProduct_low : (s.setProduct w p).reg w .eax = BitVec.ofNat _ p := by
  by_cases hw : w = .b8
  · subst hw
    rw [State.reg_al, State.setProduct_byte_ax, BitVec.setWidth_ofNat_of_le (by decide)]
  · rw [State.setProduct_wide hw, State.setQuotRem_quot]

theorem State.setProduct_onlyAccumulator : OnlyAccumulator s (s.setProduct w p) w := by
  by_cases hw : w = .b8
  · subst hw
    have hother {x : Reg} (hx : x ≠ .eax) : (s.setProduct .b8 p).gpr.get x = s.gpr.get x :=
      Gpr.get_write_other (w := .w16) _ _ hx
    have hupper (x : Reg) :
        ((s.setProduct .b8 p).gpr.get x).extractLsb' 16 16 = (s.gpr.get x).extractLsb' 16 16 :=
      Gpr.upper_get_write (w := .w16) _ _ (by decide)
    exact ⟨fun x hax _ => hother hax, fun _ => ⟨hupper .eax, hupper .edx⟩, fun _ => hother (x := .edx) nofun⟩
  · rw [State.setProduct_wide hw]
    exact State.setQuotRem_onlyAccumulator _ _

theorem State.mulFlags_flagsOnly : FlagsOnly s (s.mulFlags big) := .of_eq (Flags.setFrom_vm _ _ _) rfl

theorem State.mulFlags_cf : (s.mulFlags big).flags.cf = big := rfl

theorem State.mulFlags_ofl : (s.mulFlags big).flags.ofl = (s.mulFlags big).flags.cf := rfl

theorem State.mulFlags_sameControl : s.flags.sameControl (s.mulFlags big).flags :=
  Flags.setFrom_sameControl { s.flags with cf := big, ofl := big } _ _

theorem Kept.setProduct (h : Kept s u) : Kept s (u.setProduct w p) := by
  cases w <;> exact h

theorem SameMem.setProduct (h : SameMem s u) : SameMem s (u.setProduct w p) := by
  cases w <;> exact h

/-- The lower half of a signed value. -/
theorem ofNat_toNat_ofInt {m n : Nat} (h : n ≤ m) (v : Int) :
    BitVec.ofNat n (BitVec.ofInt m v).toNat = BitVec.ofInt n v := by
  have hdvd : ((2 ^ n : Nat) : Int) ∣ (2 ^ m : Nat) := Int.natCast_dvd_natCast.2 (Nat.pow_dvd_pow 2 h)
  have hpos : ((2 ^ m : Nat) : Int) ≠ 0 := by positivity
  refine BitVec.eq_of_toInt_eq ?_
  rw [BitVec.toInt_ofNat', BitVec.toNat_ofInt, BitVec.toInt_ofInt, Int.toNat_of_nonneg (Int.emod_nonneg _ hpos),
    ← Int.emod_bmod, Int.emod_emod_of_dvd _ hdvd, Int.emod_bmod]

/-- A signed value fits exactly where its low bits hold it. -/
theorem not_fitsSigned_iff {n : Nat} (hn : 0 < n) {v : Int} :
    (!fitsSigned n v) = true ↔ (BitVec.ofInt n v).toInt ≠ v := by
  rw [Bool.not_eq_true', fitsSigned_eq_false_iff]
  have hlow := BitVec.le_toInt (BitVec.ofInt n v)
  have hhigh := BitVec.toInt_lt (x := BitVec.ofInt n v)
  refine ⟨by omega, fun h => ?_⟩
  by_contra hfits
  exact h (BitVec.toInt_ofInt_eq_self hn (by omega) (by omega))

/-- The product of two signed values fits in twice their width. -/
theorem toInt_ofInt_mul {n : Nat} (hn : 0 < n) (a b : BitVec n) :
    (BitVec.ofInt (2 * n) (a.toInt * b.toInt)).toInt = a.toInt * b.toInt := by
  have hlow := BitVec.le_toInt_mul_toInt (x := a) (y := b)
  have hhigh := BitVec.toInt_mul_toInt_le (x := a) (y := b)
  have hpow : (2 : Int) ^ (n * 2 - 2) < 2 ^ (2 * n - 1) := by gcongr <;> omega
  exact BitVec.toInt_ofInt_eq_self (by omega) (by omega) (by omega)

theorem State.setProduct_signedDividend {v : Int} (hv : (BitVec.ofInt (2 * w.bits) v).toInt = v) :
    (s.setProduct w (BitVec.ofInt (2 * w.bits) v).toNat).signedDividend w = v := by
  rw [State.signedDividend, State.setProduct_dividend (BitVec.isLt _), BitVec.ofNat_toNat, BitVec.setWidth_eq, hv]

theorem State.mulRM_of {b : BitVec w.bits} (h : s.readRM w rm = .ok b) : s.mulRM w rm =
    .ok ((s.mulFlags (decide (2 ^ w.bits ≤ (s.reg w .eax).toNat * b.toNat))).setProduct w
      ((s.reg w .eax).toNat * b.toNat)) := by
  rw [State.mulRM, h]

theorem State.imulAcc_of {b : BitVec w.bits} (h : s.readRM w rm = .ok b) : s.imulAcc w rm =
    .ok ((s.mulFlags (!fitsSigned w.bits ((s.reg w .eax).toInt * b.toInt))).setProduct w
      (BitVec.ofInt (2 * w.bits) ((s.reg w .eax).toInt * b.toInt)).toNat) := by
  rw [State.imulAcc, h]

theorem State.imulRegRM_of {a b : BitVec w.bits} (h : s.readRM w rm = .ok a) :
    s.imulRegRM w r rm b = .ok (s.imulReg w r a b) := by
  rw [State.imulRegRM, h]

theorem exec_mulForms : ∀ i ∈ [(Instr.mulRm8 rm, Width.b8), (.mulRmv rm, s.opSize.width)],
    exec i.1 s = perform .none s fun _ => s.mulRM i.2 rm := by
  simp only [List.forall_mem_cons]
  exact ⟨(exec_mulRm8 s rm).trans (perform_const_body _ s _), (exec_mulRmv s rm).trans (perform_const_body _ s _),
    List.forall_mem_nil _⟩

theorem exec_imulAccForms : ∀ i ∈ [(Instr.imulRm8 rm, Width.b8), (.imulRmv rm, s.opSize.width)],
    exec i.1 s = perform .none s fun _ => s.imulAcc i.2 rm := by
  simp only [List.forall_mem_cons]
  exact ⟨(exec_imulRm8 s rm).trans (perform_const_body _ s _), (exec_imulRmv s rm).trans (perform_const_body _ s _),
    List.forall_mem_nil _⟩

theorem exec_imulForms : ∀ i ∈ imulForms s r rm i8 iv,
    exec i.1 s = perform .none s fun _ => s.imulRegRM s.opSize.width r rm i.2 := by
  simp only [imulForms, List.forall_mem_cons]
  exact ⟨(exec_imulRvRmv s r rm).trans (perform_const_body _ s _),
    (exec_imulRvRmvImmv s r rm iv).trans (perform_const_body _ s _),
    (exec_imulRvRmvImm8 s r rm i8).trans (perform_const_body _ s _), List.forall_mem_nil _⟩

/-- All that storing a product and its flags does besides the product. -/
theorem State.mulFlags_setProduct_frame :
    ((s.mulFlags big).setProduct w p).flags.ofl = ((s.mulFlags big).setProduct w p).flags.cf ∧
      s.flags.sameControl ((s.mulFlags big).setProduct w p).flags ∧ Kept s ((s.mulFlags big).setProduct w p) ∧
      SameMem s ((s.mulFlags big).setProduct w p) := by
  have h := State.mulFlags_flagsOnly (s := s) (big := big)
  rw [State.setProduct_flags]
  exact ⟨State.mulFlags_ofl, State.mulFlags_sameControl, h.kept.setProduct, h.sameMem.setProduct⟩

end Multiplications

/-- Settles O11: the product of two values of a width fits in twice the width (`State.setProduct_dividend`,
`toInt_ofInt_mul`), and CF is set where its lower half, taken alone, is another value. -/
theorem multiplicationsGiveFullOrCutProduct : Obligations.MultiplicationsGiveFullOrCutProduct := by
  refine fun s rm hs => ⟨fun i hi b hb => ?_, fun i hi b hb => ?_, fun r i8 iv i hi a ha => ?_⟩
  · have hfits : (s.reg i.2 .eax).toNat * b.toNat < 2 ^ (2 * i.2.bits) := by
      rw [Nat.two_mul, Nat.pow_add]
      exact Nat.mul_lt_mul'' (BitVec.isLt _) (BitVec.isLt _)
    refine ⟨_, (exec_mulForms i hi).trans (perform_plain hs (State.mulRM_of hb)), State.setProduct_dividend hfits,
      State.setProduct_onlyAccumulator (s := s.mulFlags _), ?_, State.mulFlags_setProduct_frame⟩
    rw [State.setProduct_flags, State.mulFlags_cf, decide_eq_true_iff]
  · refine ⟨_, (exec_imulAccForms i hi).trans (perform_plain hs (State.imulAcc_of hb)),
      State.setProduct_signedDividend (toInt_ofInt_mul i.2.bits_pos _ b),
      State.setProduct_onlyAccumulator (s := s.mulFlags _), ?_, State.mulFlags_setProduct_frame⟩
    rw [State.setProduct_flags, State.mulFlags_cf, State.setProduct_low, ofNat_toNat_ofInt (by omega),
      not_fitsSigned_iff i.2.bits_pos]
  · have h := State.mulFlags_flagsOnly (s := s) (big := !fitsSigned s.opSize.width.bits (a.toInt * i.2.toInt))
    exact ⟨_, _, (exec_imulForms i hi).trans (perform_plain hs (State.imulRegRM_of ha)), h.setReg_gpr, rfl,
      not_fitsSigned_iff (Width.bits_pos _), rfl, State.mulFlags_sameControl, h.setReg_kept, h.setReg_sameMem⟩

end Sys2Proof.Machine

/-! PROOFS. O18, O19: loads and stores of segment registers. What reads of descriptors depend on comes first, then the
loads, then the stores and a push that fits. -/

namespace Sys2Proof.Machine

open Claims (NoWrap PushFits Pushed Raises farLoads loadedSegs popSegs pushSegs)

/-! ### What a segment load depends on -/

section Views

variable {s u : State} {r : SReg} {sel : BitVec 16}

theorem State.linRead_congr (hc : u.ctrl = s.ctrl) (hm : u.mem = s.mem) (b : Bool) (w : Width) (lin : BitVec 32) :
    u.linRead b w lin = s.linRead b w lin := by
  simp only [State.linRead, State.linBytes, State.physAddrs_congr hc hm, hm]

theorem State.descOf?_congr (ht : u.tables = s.tables) (hc : u.ctrl = s.ctrl) (hm : u.mem = s.mem) :
    u.descOf? sel = s.descOf? sel := by
  simp only [State.descOf?, State.descAddr, State.tableFor, State.descAt, State.linRead_congr hc hm, ht]

/-- The checks of a segment load see no general register. -/
theorem State.checkSeg_dropStack (k : BitVec 32) : (s.dropStack k).checkSeg r sel = s.checkSeg r sel := by
  have hdesc : (s.dropStack k).descOf? sel = s.descOf? sel := State.descOf?_congr rfl rfl rfl
  have hcpl : (s.dropStack k).cpl = s.cpl := State.cpl_congr rfl rfl rfl
  have hmode : (s.dropStack k).protectedMode = s.protectedMode := State.protectedMode_congr rfl rfl
  simp only [State.checkSeg, State.checkStack, State.checkData, State.descOf, hdesc, hcpl, hmode]

theorem State.writeCheck_congr (hv : SameView s u) (off : BitVec 32) (n : Nat) :
    u.writeCheck r off n = s.writeCheck r off n := by
  obtain ⟨-, hsegs, hctrl, -, hvm, hmem⟩ := hv
  simp only [State.writeCheck, State.accessOk_congr hsegs hctrl hvm, State.user_congr hsegs hctrl hvm,
    State.linear_congr hsegs, State.physAddrs_congr hctrl hmem, State.accessExc,
    State.protectedMode_congr hctrl hvm]

end Views

/-! ### Loads of segment registers -/

section SegmentRegisterLoads

variable {s : State} {r : SReg} {q : Reg} {rm : RM} {c : BitVec 3} {sel : BitVec 16} {g : SegReg} {ea : EA}

theorem State.movToSeg_of (hc : SReg.ofCode c = some r) (hr : r ≠ .cs) (hsel : s.readRM .w16 rm = .ok sel)
    (hg : s.checkSeg r sel = .ok g) : s.movToSeg c rm = .ok ((s.setSeg r g).inhibitAfterSs r) := by
  have hload := State.loadSeg_of_check_ok hg
  cases r with
  | cs => exact absurd rfl hr
  | es | ss | ds | fs | gs => simp only [State.movToSeg, hc, hsel, hload]

/-- CS and the codes that name no segment register cannot be loaded by MOV (R367). -/
theorem State.movToSeg_ud : ∀ c ∈ [(1 : BitVec 3), 6, 7], s.movToSeg c rm = raise excUD := by
  simp only [List.forall_mem_cons]
  exact ⟨rfl, rfl, rfl, List.forall_mem_nil _⟩

theorem loadedSegs_code : ∀ i ∈ loadedSegs, SReg.ofCode i.1 = some i.2 ∧ i.2 ≠ .cs := by decide

theorem State.popSeg_of {v : BitVec 32} (hv : s.stackItem s.opSize 0 = .ok v)
    (hg : s.checkSeg r (v.setWidth 16) = .ok g) : s.popSeg r =
      .ok (((s.dropStack (BitVec.ofNat 32 s.opSize.bytes)).setSeg r g).inhibitAfterSs r) := by
  rw [State.popSeg, State.pop, hv]
  simp only [State.loadSeg_of_check_ok ((State.checkSeg_dropStack _).trans hg)]

theorem State.loadFar_of {off : BitVec 32} (hptr : s.farPtr ea = .ok (off, sel)) (hg : s.checkSeg r sel = .ok g) :
    s.loadFar r q (.mem ea) = .ok ((s.setSeg r g).setReg s.opSize.width q (off.setWidth _)) := by
  simp only [State.loadFar, needMem, hptr, State.loadSeg_of_check_ok hg]

theorem exec_popSegs : ∀ i ∈ popSegs, exec i.1 s = perform .none s fun s => s.popSeg i.2 := by
  simp only [popSegs, List.forall_mem_cons]
  exact ⟨exec_popEs s, exec_popSs s, exec_popDs s, exec_popFs s, exec_popGs s,
    List.forall_mem_nil _⟩

theorem exec_farLoads : ∀ i ∈ farLoads q rm, exec i.1 s = perform .none s fun s => s.loadFar i.2 q rm := by
  simp only [farLoads, List.forall_mem_cons]
  exact ⟨exec_lds s q rm, exec_les s q rm, exec_lfs s q rm, exec_lgs s q rm, exec_lss s q rm,
    List.forall_mem_nil _⟩

end SegmentRegisterLoads

/-- Settles O18: each form reads its selector, makes the checks of the load and puts what they answer in the segment
register (`State.movToSeg_of`, `State.popSeg_of`, `State.loadFar_of`). -/
theorem segmentRegisterLoadsTakeCheckedSelector : Obligations.SegmentRegisterLoadsTakeCheckedSelector := by
  refine fun s rm hs => ⟨fun i hi sel g hsel hg => ?_, fun c hc => ?_, fun i hi v g hv hg => ?_,
    fun r ea i hi off sel g hptr hg => ?_, fun r q i hi => ?_⟩
  · obtain ⟨hcode, hcs⟩ := loadedSegs_code i hi
    exact (exec_movSregRm s i.1 rm).trans (perform_plain hs (State.movToSeg_of hcode hcs hsel hg))
  · exact (exec_movSregRm s c rm).trans (perform_plain_raise hs (State.movToSeg_ud c hc))
  · exact (exec_popSegs i hi).trans (perform_plain hs (State.popSeg_of hv hg))
  · exact (exec_farLoads i hi).trans (perform_plain hs (State.loadFar_of hptr hg))
  · exact (exec_farLoads i hi).trans (perform_plain_raise hs rfl)

/-! ### Stores of selectors -/

section SelectorStores

variable {s : State} {r : SReg} {q : Reg} {rm : RM} {z : Size} {sel : BitVec 16}

/-- A word stored into a register fills its low half; what is above it is free at a 32-bit operand size (R367, R432). -/
theorem State.storeWordFree_reg (q : Reg) (v : BitVec 16) : ∃ t x, s.storeWordFree (.reg q) v = .ok t ∧
    t.flags = s.flags ∧ Kept s t ∧ SameMem s t ∧ t.gpr = s.gpr.write s.opSize.width q x ∧ x.setWidth 16 = v := by
  have h : FlagsOnly s s := .refl
  have hdraw : FlagsOnly s s.draw.2 := .of_eq rfl rfl
  unfold State.storeWordFree
  cases s.opSize with
  | s16 => exact ⟨_, v, rfl, rfl, h.setReg_kept, h.setReg_sameMem, rfl, BitVec.setWidth_eq v⟩
  | s32 => exact ⟨_, _, rfl, rfl, hdraw.setReg_kept, hdraw.setReg_sameMem, rfl, setWidth_append_low _ v⟩

theorem State.movFromSeg_of {c : BitVec 3} (h : SReg.ofCode c = some r) :
    s.movFromSeg c rm = s.storeWordFree rm (s.seg r).sel := by
  rw [State.movFromSeg, h]

theorem State.movFromSeg_ud : ∀ c ∈ [(6 : BitVec 3), 7], s.movFromSeg c rm = raise excUD := by
  simp only [List.forall_mem_cons]
  exact ⟨rfl, rfl, List.forall_mem_nil _⟩

/-- A push of an item that passes its write check (R5). -/
theorem State.push_of_check (hcheck : s.writeCheck .ss (s.pushOffset z.bytes) z.bytes = .ok ()) (v : BitVec 32) :
    ∃ t, s.push z v = .ok t ∧ Pushed s t z (v.setWidth _) := by
  rw [← Size.width_bytes] at hcheck
  obtain ⟨t, ht, hstores, hgpr, hflags, hkept⟩ := FlagsOnly.refl.memWrite_of_check hcheck (v.setWidth _)
  rw [Size.width_bytes] at ht hstores
  refine ⟨t.setEReg s.stackSize .esp (s.pushOffset z.bytes), by rw [State.push, ht], hstores, ?_, hflags, hkept⟩
  rw [State.setEReg_gpr, hgpr, State.setEReg_gpr]

theorem State.pushWraps_of_noWrap (h : NoWrap s) : s.pushWraps s.opSize 1 = false := by
  rw [State.pushWraps, Nat.one_mul, Bool.and_eq_false_iff, Bool.not_eq_false', decide_eq_false_iff_not, Nat.not_lt]
  exact h

/-- An item that straddles no stack top and passes its write check is pushed (R393). -/
theorem State.pushOrShutdown_of (hwraps : s.pushWraps z 1 = false)
    (hcheck : s.writeCheck .ss (s.pushOffset z.bytes) z.bytes = .ok ()) (v : BitVec 32) :
    ∃ t, s.pushOrShutdown z v = .ok t ∧ Pushed s t z (v.setWidth _) := by
  obtain ⟨hacc, -⟩ := State.writeCheck_ok hcheck
  have hpass : s.pushCheck z 1 = .ok () := State.pushCheck_ok.2 ⟨hwraps, by rwa [Nat.one_mul]⟩
  obtain ⟨t, ht, hpushed⟩ := State.push_of_check hcheck v
  exact ⟨t, by rw [State.pushOrShutdown, hpass, ht], hpushed⟩

/-- A selector that fits is pushed, with a free value above it in a doubleword item. -/
theorem State.pushOrShutdown_padWord_of (hwraps : s.pushWraps z 1 = false)
    (hcheck : s.writeCheck .ss (s.pushOffset z.bytes) z.bytes = .ok ()) (sel : BitVec 16) :
    ∃ t x, (s.padWord z sel).2.pushOrShutdown z (s.padWord z sel).1 = .ok t ∧ Pushed s t z x ∧
      x.setWidth 16 = sel := by
  cases z with
  | s16 =>
    obtain ⟨t, ht, hpushed⟩ := State.pushOrShutdown_of hwraps hcheck (sel.setWidth 32)
    exact ⟨t, _, ht, hpushed, by simp [Size.width]⟩
  | s32 =>
    have hdraw : FlagsOnly s s.draw.2 := .of_eq rfl rfl
    obtain ⟨t, ht, hpushed⟩ := State.pushOrShutdown_of (s := s.draw.2) hwraps
      ((State.writeCheck_congr hdraw.view _ _).trans hcheck) (s.draw.1.extractLsb' 16 16 ++ sel)
    exact ⟨t, _, ht, Pushed.of_draws hpushed, by simpa [Size.width] using setWidth_append_low _ sel⟩

theorem exec_pushSegs : ∀ i ∈ pushSegs, exec i.1 s = perform .none s fun s => s.pushSeg i.2 := by
  simp only [pushSegs, List.forall_mem_cons]
  exact ⟨exec_pushEs s, exec_pushCs s, exec_pushSs s, exec_pushDs s, exec_pushFs s, exec_pushGs s,
    List.forall_mem_nil _⟩

end SelectorStores

/-- Settles O19: MOV stores the selector as a word with, in a doubleword register, a free value above it
(`State.storeWordFree_reg`), and so does a push that fits (`State.pushOrShutdown_padWord_of`). -/
theorem segmentRegisterStoresGiveSelector : Obligations.SegmentRegisterStoresGiveSelector := by
  refine fun s hs => ⟨fun c r hc => ⟨fun ea hcheck => ?_, fun q => ?_⟩, fun rm c hc => ?_, fun i hi hwrap hfits => ?_⟩
  · obtain ⟨t, ht, hstores, hkept, hflags⟩ := FlagsOnly.refl.writeRM_of_check hcheck (s.seg r).sel
    exact ⟨t, (exec_movRmSreg s _ c).trans (perform_plain hs ((State.movFromSeg_of hc).trans ht)), hstores, hflags,
      hkept⟩
  · obtain ⟨t, x, ht, hspec⟩ := State.storeWordFree_reg (s := s) q (s.seg r).sel
    exact ⟨t, x, (exec_movRmSreg s _ c).trans (perform_plain hs ((State.movFromSeg_of hc).trans ht)), hspec⟩
  · exact (exec_movRmSreg s rm c).trans (perform_plain_raise hs (State.movFromSeg_ud c hc))
  · obtain ⟨t, x, ht, hspec⟩ := State.pushOrShutdown_padWord_of (State.pushWraps_of_noWrap hwrap) hfits (s.seg i.2).sel
    exact ⟨t, x, (exec_pushSegs i hi).trans (perform_plain hs ht), hspec⟩

end Sys2Proof.Machine

/-! PROOFS. O27: one element of the string instructions. The index registers come first, then what an element does once
it has been read, then its write and the ports. -/

namespace Sys2Proof.Machine

open Claims (PortAllowed PortDenied Raises movedIndexes stepped stringWidths)

/-! ### The index registers -/

section Indexes

variable {s u : State} {z : Size} {r q : Reg} {n : Nat}

theorem homeReg_size : homeReg z.width r = r := by
  cases z <;> rfl

theorem State.eReg_setEReg_other (h : q ≠ r) (v : BitVec 32) : (s.setEReg z r v).eReg z q = s.eReg z q := by
  have hget : (s.setEReg z r v).gpr.get q = s.gpr.get q := Gpr.get_write_other _ _ (homeReg_size.symm ▸ h)
  rw [State.eReg, State.reg_eq_setWidth, hget, ← State.reg_eq_setWidth, ← State.eReg]

/-- A write to the accumulator and one to an index register commute. -/
theorem Gpr.write_eax_esi (g : Gpr) {w : Width} (a : BitVec w.bits) (b : BitVec z.width.bits) :
    (g.write w .eax a).write z.width .esi b = (g.write z.width .esi b).write w .eax a := by
  cases w <;> cases z <;> rfl

/-- The address size depends on nothing that an instruction keeps by `Kept`, and on VM. -/
theorem Kept.addrSize_eq (h : Kept s u) (hvm : u.flags.vm = s.flags.vm) : u.addrSize = s.addrSize := by
  obtain ⟨-, hsegs, -, hctrl, -, -, hseq⟩ := h
  have hpfx : u.seq.pfx = s.seq.pfx := (congrArg Seq.pfx hseq :)
  simp only [State.addrSize, State.defaultD, State.protectedMode, hsegs, hctrl, hpfx, hvm]

/-- Index registers move as in a state with the same registers, address size and DF. -/
theorem movedIndexes_congr (hkept : Kept s u) (hgpr : u.gpr = s.gpr) (hvm : u.flags.vm = s.flags.vm)
    (hdf : u.flags.df = s.flags.df) (rs : List Reg) : movedIndexes u n rs = movedIndexes s n rs := by
  have hsize := hkept.addrSize_eq hvm
  have hstep (r : Reg) : stepped u r n = stepped s r n := by
    have hindex : u.eReg s.addrSize r = s.eReg s.addrSize r := by rw [State.eReg, State.reg, hgpr]; rfl
    rw [stepped, stepped, hsize, hdf, hindex]
  simp only [movedIndexes, hstep, hgpr]
  rw [hsize]

theorem State.moveIndex_gpr : (s.moveIndex r n).gpr = movedIndexes s n [r] := rfl

/-- The second of two index registers moves by its own old value. -/
theorem State.moveIndex_moveIndex_gpr :
    ((s.moveIndex .esi n).moveIndex .edi n).gpr = movedIndexes s n [.esi, .edi] := by
  have hindex : (s.moveIndex .esi n).eReg s.addrSize .edi = s.eReg s.addrSize .edi :=
    State.eReg_setEReg_other (by decide) _
  have hstep : stepped (s.moveIndex .esi n) .edi n = stepped s .edi n := by
    rw [stepped, stepped, ← hindex]
    rfl
  exact congrArg (fun v => (s.moveIndex .esi n).gpr.write s.addrSize.width .edi (v.setWidth _)) hstep

/-- What a store does in a state with the same view is what it does in the first. -/
theorem StoresAt.of_view {t : State} {x : SReg} {w : Width} {off : BitVec 32} {v : BitVec w.bits} (hv : SameView s u)
    (h : StoresAt u t x w off v) : StoresAt s t x w off v := by
  obtain ⟨-, hsegs, hctrl, -, hvm, hmem⟩ := hv
  rwa [StoresAt, State.user_congr hsegs hctrl hvm, State.linear_congr hsegs, State.physAddrs_congr hctrl hmem,
    hmem] at h

/-- The general registers are no part of what `Kept` and `SameMem` compare. -/
theorem Kept.moveIndex (h : Kept s u) : Kept s (u.moveIndex r n) := h

theorem SameMem.moveIndex (h : SameMem s u) : SameMem s (u.moveIndex r n) := h

end Indexes

/-! ### Elements in memory -/

section Elements

variable {s : State} {w : Width} {a b : BitVec w.bits}

theorem State.movsOne_of (ha : s.memRead (s.dataSeg .ds) w (s.index .esi) = .ok a)
    (hcheck : s.writeCheck .es (s.index .edi) w.bytes = .ok ()) :
    ∃ t, State.movsOne w s = .ok t ∧ StoresAt s t .es w (s.index .edi) a ∧
      t.gpr = movedIndexes s w.bytes [.esi, .edi] ∧ t.flags = s.flags ∧ Kept s t := by
  obtain ⟨u, hu, hstores, hgpr, hflags, hkept⟩ := FlagsOnly.refl.memWrite_of_check hcheck a
  refine ⟨(u.moveIndex .esi w.bytes).moveIndex .edi w.bytes, by rw [State.movsOne, ha]; simp only [hu], hstores, ?_,
    hflags, hkept.moveIndex.moveIndex⟩
  rw [State.moveIndex_moveIndex_gpr, movedIndexes_congr hkept hgpr (by rw [hflags]) (by rw [hflags])]

theorem State.stosOne_of (hcheck : s.writeCheck .es (s.index .edi) w.bytes = .ok ()) :
    ∃ t, State.stosOne w s = .ok t ∧ StoresAt s t .es w (s.index .edi) (s.reg w .eax) ∧
      t.gpr = movedIndexes s w.bytes [.edi] ∧ t.flags = s.flags ∧ Kept s t := by
  obtain ⟨u, hu, hstores, hgpr, hflags, hkept⟩ := FlagsOnly.refl.memWrite_of_check hcheck (s.reg w .eax)
  refine ⟨u.moveIndex .edi w.bytes, by rw [State.stosOne, hu], hstores, ?_, hflags, hkept.moveIndex⟩
  rw [State.moveIndex_gpr, movedIndexes_congr hkept hgpr (by rw [hflags]) (by rw [hflags])]

theorem State.lodsOne_of (ha : s.memRead (s.dataSeg .ds) w (s.index .esi) = .ok a) :
    ∃ t, State.lodsOne w s = .ok t ∧ t.gpr = (movedIndexes s w.bytes [.esi]).write w .eax a ∧ t.flags = s.flags ∧
      Kept s t ∧ SameMem s t := by
  have h : FlagsOnly s s := .refl
  have hesi : (s.setReg w .eax a).gpr.get .esi = s.gpr.get .esi :=
    Gpr.get_write_other _ _ (by cases w <;> decide)
  have hindex : (s.setReg w .eax a).eReg s.addrSize .esi = s.eReg s.addrSize .esi := by
    rw [State.eReg, State.reg_eq_setWidth, hesi, ← State.reg_eq_setWidth, ← State.eReg]
  have hstep : stepped (s.setReg w .eax a) .esi w.bytes = stepped s .esi w.bytes := by
    rw [stepped, stepped, ← hindex]
    rfl
  refine ⟨(s.setReg w .eax a).moveIndex .esi w.bytes, by rw [State.lodsOne, ha], ?_, rfl,
    Kept.moveIndex h.setReg_kept, SameMem.moveIndex h.setReg_sameMem⟩
  calc ((s.setReg w .eax a).moveIndex .esi w.bytes).gpr
      = (s.gpr.write w .eax a).write s.addrSize.width .esi ((stepped s .esi w.bytes).setWidth _) :=
        congrArg (fun v : BitVec 32 => (s.gpr.write w .eax a).write s.addrSize.width .esi (v.setWidth _)) hstep
    _ = (movedIndexes s w.bytes [.esi]).write w .eax a := Gpr.write_eax_esi _ _ _

theorem State.cmpsOne_of (ha : s.memRead (s.dataSeg .ds) w (s.index .esi) = .ok a)
    (hb : s.memRead .es w (s.index .edi) = .ok b) :
    ∃ t, State.cmpsOne w s = .ok t ∧ t.gpr = movedIndexes s w.bytes [.esi, .edi] ∧
      t.flags = s.flags.sub a b false ∧ Kept s t ∧ SameMem s t := by
  obtain ⟨hflags, hgpr, hkept, hmem⟩ := State.cmpFlags_spec (s := s) a b
  refine ⟨((s.aluFlags .cmp a b).moveIndex .esi w.bytes).moveIndex .edi w.bytes,
    by rw [State.cmpsOne, ha]; simp only [hb], ?_, hflags, hkept.moveIndex.moveIndex, hmem.moveIndex.moveIndex⟩
  rw [State.moveIndex_moveIndex_gpr, movedIndexes_congr hkept hgpr (by rw [hflags]; rfl) (by rw [hflags]; rfl)]

theorem State.scasOne_of (hb : s.memRead .es w (s.index .edi) = .ok b) :
    ∃ t, State.scasOne w s = .ok t ∧ t.gpr = movedIndexes s w.bytes [.edi] ∧
      t.flags = s.flags.sub (s.reg w .eax) b false ∧ Kept s t ∧ SameMem s t := by
  obtain ⟨hflags, hgpr, hkept, hmem⟩ := State.cmpFlags_spec (s := s) (s.reg w .eax) b
  refine ⟨(s.aluFlags .cmp (s.reg w .eax) b).moveIndex .edi w.bytes, by rw [State.scasOne, hb], ?_, hflags,
    hkept.moveIndex, hmem.moveIndex⟩
  rw [State.moveIndex_gpr, movedIndexes_congr hkept hgpr (by rw [hflags]; rfl) (by rw [hflags]; rfl)]

end Elements

/-! ### Elements at a port -/

section PortElements

variable {s : State} {w : Width} {a : BitVec w.bits}

theorem State.portIn_of (h : s.dx.toNat + w.bytes ≤ 2 ^ 16) : ∃ x : BitVec w.bits, s.portIn s.dx w = .ok (x, { s with
    draws := s.draws + 1, io := s.io ++ [IoEvent.input s.dx w.bytes (x.setWidth 32)] }) :=
  ⟨_, by rw [State.portIn, needPortRange, if_pos h]⟩

theorem State.portOut_of (h : s.dx.toNat + w.bytes ≤ 2 ^ 16) (v : BitVec w.bits) :
    s.portOut s.dx w v = .ok { s with io := s.io ++ [.output s.dx w.bytes (v.setWidth 32)] } := by
  rw [State.portOut, needPortRange, if_pos h]

/-- A store that passes its write check takes place after a port access too. -/
theorem State.memWrite_after_io {r : SReg} {off : BitVec 32} {d : Nat} {l : List IoEvent}
    (hcheck : s.writeCheck r off w.bytes = .ok ()) (x : BitVec w.bits) :
    ∃ t, State.memWrite { s with draws := d, io := l } r w off x = .ok t ∧ StoresAt s t r w off x ∧ t.gpr = s.gpr ∧
      t.flags = s.flags ∧ t.io = l ∧ Kept s { t with io := s.io } := by
  have hview : SameView s { s with draws := d, io := l } := ⟨rfl, rfl, rfl, rfl, rfl, rfl⟩
  obtain ⟨t, ht, hstores, hgpr, hflags, heip, hsegs, htables, hctrl, hpins, hio, hseq⟩ :=
    FlagsOnly.refl.memWrite_of_check ((State.writeCheck_congr hview _ _).trans hcheck) x
  exact ⟨t, ht, hstores.of_view hview, hgpr, hflags, hio, heip, hsegs, htables, hctrl, hpins, rfl, hseq⟩

theorem State.insOne_of (hrange : s.dx.toNat + w.bytes ≤ 2 ^ 16) (hport : PortAllowed s s.dx w.bytes)
    (hcheck : s.writeCheck .es (s.index .edi) w.bytes = .ok ()) :
    ∃ t x, State.insOne w s = .ok t ∧ StoresAt s t .es w (s.index .edi) x ∧
      t.io = s.io ++ [.input s.dx w.bytes (x.setWidth 32)] ∧ t.gpr = movedIndexes s w.bytes [.edi] ∧
      t.flags = s.flags ∧ Kept s { t with io := s.io } := by
  obtain ⟨x, hin⟩ := State.portIn_of hrange
  obtain ⟨t, ht, hstores, hgpr, hflags, hio, hkept⟩ := State.memWrite_after_io (d := s.draws + 1)
    (l := s.io ++ [.input s.dx w.bytes (x.setWidth 32)]) hcheck x
  refine ⟨t.moveIndex .edi w.bytes, x, ?_, hstores, hio, ?_, hflags, hkept.moveIndex⟩
  · have hindex (d : Nat) (l : List IoEvent) : State.index { s with draws := d, io := l } .edi = s.index .edi := rfl
    simp only [State.insOne, State.needPort_of_allowed hport, hcheck, hin, hindex, ht]
  · exact State.moveIndex_gpr.trans
      (movedIndexes_congr (u := { t with io := s.io }) hkept hgpr (by rw [hflags]) (by rw [hflags]) _)

theorem State.outsOne_of (hrange : s.dx.toNat + w.bytes ≤ 2 ^ 16) (hport : PortAllowed s s.dx w.bytes)
    (ha : s.memRead (s.dataSeg .ds) w (s.index .esi) = .ok a) :
    ∃ t, State.outsOne w s = .ok t ∧ t.io = s.io ++ [.output s.dx w.bytes (a.setWidth 32)] ∧
      t.gpr = movedIndexes s w.bytes [.esi] ∧ t.flags = s.flags ∧ Kept s { t with io := s.io } ∧ SameMem s t := by
  refine ⟨{ s with io := s.io ++ [IoEvent.output s.dx w.bytes (a.setWidth 32)] }.moveIndex .esi w.bytes, ?_, rfl,
    rfl, rfl, ⟨rfl, rfl, rfl, rfl, rfl, rfl, rfl⟩, rfl, fun _ => rfl⟩
  rw [State.outsOne, State.needPort_of_allowed hport]
  simp only [ha, State.portOut_of hrange]

theorem State.insOne_of_denied (h : PortDenied s s.dx w.bytes) : State.insOne w s = raise (excGP 0) := by
  rw [State.insOne, State.needPort_of_denied h]
  rfl

theorem State.outsOne_of_denied (h : PortDenied s s.dx w.bytes) : State.outsOne w s = raise (excGP 0) := by
  rw [State.outsOne, State.needPort_of_denied h]
  rfl

end PortElements

/-! ### String instructions without a prefix -/

section StringForms

variable {s : State} {b v : Instr} {rule : GroupRule} {compares : Bool} {one : Width → State → Res State}

/-- Without a repeat prefix a string instruction is one element, in its byte and in its word or doubleword form
(R408). -/
theorem exec_stringWidths (hs : s.plain) (hb : exec b s = perform rule s fun s => s.repeated compares (one .b8))
    (hv : exec v s = perform rule s fun s => s.repeated compares (one s.opSize.width)) :
    ∀ i ∈ stringWidths b v s, exec i.1 s = s.settle (one i.2 s) := by
  have hone (f : State → Res State) : s.repeated compares f = f s := by rw [State.repeated, hs]
  simp only [stringWidths, List.forall_mem_cons]
  refine ⟨?_, ?_, List.forall_mem_nil _⟩
  · rw [hb, perform_allowed (rule.allows_plain hs), hone]
  · rw [hv, perform_allowed (rule.allows_plain hs), hone]

end StringForms

/-- Settles O27: each form is one element (`exec_stringWidths`), which reads and writes as `State.movsOne_of` and its
siblings say and then moves its index registers; at a port that is denied it stops at the permission. -/
theorem stringElements : Obligations.StringElements := by
  refine ⟨fun s hs => ⟨fun i hi a ha hcheck => ?_, fun i hi hcheck => ?_, fun i hi a ha => ?_,
    fun i hi a b ha hb => ?_, fun i hi b hb => ?_⟩, fun s hs => ⟨fun i hi hrange hport hcheck => ?_,
    fun i hi hrange hport a ha => ?_, fun i hi hdenied => ?_⟩⟩
  · obtain ⟨t, ht, hspec⟩ := State.movsOne_of ha hcheck
    exact ⟨t, by rw [exec_stringWidths hs (exec_movsB s) (exec_movsV s) i hi, ht]; rfl, hspec⟩
  · obtain ⟨t, ht, hspec⟩ := State.stosOne_of hcheck
    exact ⟨t, by rw [exec_stringWidths hs (exec_stosB s) (exec_stosV s) i hi, ht]; rfl, hspec⟩
  · obtain ⟨t, ht, hspec⟩ := State.lodsOne_of ha
    exact ⟨t, by rw [exec_stringWidths hs (exec_lodsB s) (exec_lodsV s) i hi, ht]; rfl, hspec⟩
  · obtain ⟨t, ht, hspec⟩ := State.cmpsOne_of ha hb
    exact ⟨t, by rw [exec_stringWidths hs (exec_cmpsB s) (exec_cmpsV s) i hi, ht]; rfl, hspec⟩
  · obtain ⟨t, ht, hspec⟩ := State.scasOne_of hb
    exact ⟨t, by rw [exec_stringWidths hs (exec_scasB s) (exec_scasV s) i hi, ht]; rfl, hspec⟩
  · obtain ⟨t, x, ht, hspec⟩ := State.insOne_of hrange hport hcheck
    exact ⟨t, x, by rw [exec_stringWidths hs (exec_insB s) (exec_insV s) i hi, ht]; rfl, hspec⟩
  · obtain ⟨t, ht, hspec⟩ := State.outsOne_of hrange hport ha
    exact ⟨t, by rw [exec_stringWidths hs (exec_outsB s) (exec_outsV s) i hi, ht]; rfl, hspec⟩
  · obtain hin | hout := List.mem_append.1 hi
    · rw [Raises, exec_stringWidths hs (exec_insB s) (exec_insV s) i hin, State.insOne_of_denied hdenied]
      rfl
    · rw [Raises, exec_stringWidths hs (exec_outsB s) (exec_outsV s) i hout, State.outsOne_of_denied hdenied]
      rfl

end Sys2Proof.Machine

/-! PROOFS. O45: the special registers. Reads and writes of each come first, then CR0. -/

namespace Sys2Proof.Machine

open Claims (Raises readForms unnamedForms withCr0 writeForms)

section SpecialRegisters

variable {s t : State} {r : Reg} {v : BitVec 32} {c : Cr0}

/-! ### Moves -/

/-- At level 0 a move from a register that is named loads its value and leaves the status flags free (R361). -/
theorem State.moveFromSpecial_of (hcpl : s.cpl = 0) :
    s.moveFromSpecial r (some v) = .ok ((s.undefineFlags statusFlags).setReg .d32 r v) := by
  rw [State.moveFromSpecial, State.needCpl0_of hcpl]

/-- At level 0 a move to a register that is named is the write, and leaves the status flags free (R361). -/
theorem State.moveToSpecial_of (hcpl : s.cpl = 0) :
    s.moveToSpecial (some t) = .ok (t.undefineFlags statusFlags) := by
  rw [State.moveToSpecial, State.needCpl0_of hcpl]

theorem exec_readForms : ∀ i ∈ readForms s r, exec i.1 s = perform .none s fun _ => s.moveFromSpecial r (some i.2) := by
  simp only [readForms, List.forall_mem_cons]
  exact ⟨rfl, rfl, rfl, rfl, rfl, rfl, rfl, rfl, rfl, rfl, rfl, List.forall_mem_nil _⟩

theorem exec_writeForms : ∀ i ∈ writeForms s r,
    exec i.1 s = perform .none s fun _ => s.moveToSpecial (some { s with ctrl := i.2 }) := by
  simp only [writeForms, List.forall_mem_cons]
  exact ⟨rfl, rfl, rfl, rfl, rfl, rfl, rfl, rfl, rfl, rfl, List.forall_mem_nil _⟩

/-- A code that names no special register is #UD at every level (R361). -/
theorem exec_unnamedForms : ∀ i ∈ unnamedForms r, exec i s = perform .none s fun _ => raise excUD := by
  simp only [unnamedForms, List.forall_mem_cons]
  exact ⟨rfl, rfl, rfl, rfl, rfl, rfl, rfl, rfl, rfl, rfl, rfl, rfl, rfl, rfl, rfl, rfl, rfl, rfl, rfl, rfl, rfl, rfl,
    rfl, rfl, rfl, rfl, List.forall_mem_nil _⟩

/-! ### CR0 -/

/-- A write of CR0 remembers a change of PE (R502). -/
theorem State.setCr0_eq : s.setCr0 c = withCr0 s c := by
  have hswitch : (s.seq.peSwitch || s.ctrl.cr0.pe != c.pe) =
      if c.pe = s.ctrl.cr0.pe then s.seq.peSwitch else true := by
    cases s.seq.peSwitch <;> cases s.ctrl.cr0.pe <;> cases c.pe <;> rfl
  rw [State.setCr0, withCr0, hswitch]

theorem exec_movCr0 : exec (.movCrR 0 r) s =
    perform .none s fun _ => s.moveToSpecial (some (s.setCr0 (Cr0.ofImage (s.reg .d32 r)))) := rfl

theorem State.loadMsw_of {rm : RM} {x : BitVec 16} (hcpl : s.cpl = 0) (hx : s.readRM .w16 rm = .ok x) :
    s.loadMsw rm = .ok (withCr0 s (s.ctrl.cr0.loadMsw x)) := by
  rw [State.loadMsw, Res.bind_of (State.needCpl0_of hcpl), Res.bind_of hx, State.setCr0_eq]
  rfl

/-- Where the image of CR0 has its bits (R42). -/
theorem Cr0.getLsbD_image (c : Cr0) :
    c.image.getLsbD 0 = c.pe ∧ c.image.getLsbD 1 = c.mp ∧ c.image.getLsbD 2 = c.em ∧ c.image.getLsbD 3 = c.ts ∧
      c.image.getLsbD 4 = c.et ∧ c.image.getLsbD 31 = c.pg ∧ ∀ k, 5 ≤ k → k ≤ 30 → c.image.getLsbD k = false := by
  simp only [Cr0.image, BitVec.getLsbD_append, BitVec.getLsbD_ofBool]
  refine ⟨by simp, by simp, by simp, by simp, by simp, by simp, fun k h5 h30 => ?_⟩
  iterate 5 rw [if_neg (by omega)]
  rw [if_pos (by omega), BitVec.getLsbD_zero]

end SpecialRegisters

/-- Settles O45: a move names its register by its code (`exec_readForms`, `exec_writeForms`, `exec_unnamedForms`), and
MOV CR0 and LMSW write CR0 by one operation (`State.setCr0_eq`). -/
theorem controlDebugAndTestRegisters : Obligations.ControlDebugAndTestRegisters := by
  refine ⟨fun s r hs => ⟨fun hcpl i hi => ?_, fun hcpl i hi => ?_, fun hcpl => ?_, fun i hi => ?_,
    s.ctrl.cr0.getLsbD_image⟩, fun s hs hcpl => ⟨fun rm x hx => ?_, ?_⟩⟩
  · have h : FlagsOnly s (s.undefineFlags statusFlags) := State.undefineFlags_flagsOnly _
    exact ⟨_, (exec_readForms i hi).trans (perform_plain hs (State.moveFromSpecial_of hcpl)), h.setReg_gpr,
      Flags.setFrom_sameControl _ _ _, h.setReg_kept, h.setReg_sameMem⟩
  · exact ⟨_, (exec_writeForms i hi).trans (perform_plain hs (State.moveToSpecial_of hcpl)), rfl, rfl,
      Flags.setFrom_sameControl _ _ _, ⟨rfl, rfl, rfl, rfl, rfl, rfl, rfl⟩, rfl, fun _ => rfl⟩
  · refine ⟨_, exec_movCr0.trans (perform_plain hs (State.moveToSpecial_of hcpl)), ?_⟩
    rw [State.setCr0_eq]
    exact ⟨rfl, rfl, rfl, Flags.setFrom_sameControl _ _ _, ⟨rfl, rfl, rfl, rfl, rfl, rfl, rfl⟩, rfl, fun _ => rfl⟩
  · exact (exec_unnamedForms i hi).trans (perform_plain_raise hs rfl)
  · exact (exec_lmsw s rm).trans (perform_plain hs (State.loadMsw_of hcpl hx))
  · exact (exec_clts s).trans (perform_plain hs (by rw [State.needCpl0_of hcpl]))

end Sys2Proof.Machine

/-! PROOFS. O5, O7: shifts, rotates and double shifts. -/

namespace Sys2Proof.Machine

open Claims (ResultFlags ShiftFlags doubleForms maskedCount shiftForms)

/-! ### The flags of shifts and rotates -/

section ShiftFlags

variable (s : State) {n k : Nat} {a r : BitVec n} {c : Bool}

theorem State.shiftFlags_one (op : ShiftOp) : s.shiftFlags op 1 a r c =
    if op.isShift then
      { s with flags := { s.flags.szp r with cf := c, ofl := op.singleOf a r c } }.undefineFlags [.af]
    else { s with flags := { s.flags with cf := c, ofl := op.singleOf a r c } } := by
  cases op <;> rfl

theorem State.shiftFlags_of_ne (op : ShiftOp) (hk : k ≠ 1) : s.shiftFlags op k a r c =
    if op.isShift then { s with flags := { s.flags.szp r with cf := c } }.undefineFlags [.af, .ofl]
    else { s with flags := { s.flags with cf := c } }.undefineFlags [.ofl] := by
  cases op <;> simp [State.shiftFlags, ShiftOp.isShift, hk]

theorem State.shiftFlags_sameControl (op : ShiftOp) (k : Nat) (a r : BitVec n) (c : Bool) :
    s.flags.sameControl (s.shiftFlags op k a r c).flags := by
  by_cases hk : k = 1
  · subst hk
    rw [State.shiftFlags_one]
    split <;> exact ⟨rfl, rfl, rfl, rfl, rfl, rfl, rfl⟩
  · rw [State.shiftFlags_of_ne s op hk]
    split <;> exact ⟨rfl, rfl, rfl, rfl, rfl, rfl, rfl⟩

end ShiftFlags

/-! ### Shifts and rotates -/

section Shifts

variable {s : State} {op : ShiftOp} {w : Width} {rm : RM} {c : Count} {k : Nat}

/-- The low five bits of a byte are its value modulo 32 (R396). -/
theorem toNat_and_31 (x : BitVec 8) : (x &&& 31).toNat = x.toNat % 32 := by
  rw [BitVec.toNat_and]
  exact Nat.and_two_pow_sub_one_eq_mod x.toNat 5

theorem maskedCount_eq_shiftCount (s : State) (c : Count) : maskedCount s c = s.shiftCount c := by
  cases c with
  | imm n => exact toNat_and_31 n
  | one => rfl
  | cl =>
    have hcl : s.gpr.ecx.setWidth 8 = s.reg .b8 .ecx := BitVec.setWidth_eq_extractLsb' (by decide)
    exact (toNat_and_31 _).trans (congrArg (fun x : BitVec 8 => x.toNat % 32) hcl)

theorem exec_shiftForms : ∀ i ∈ shiftForms op s rm c,
    exec i.1 s = perform .none s fun _ => s.shiftRM op i.2 rm (maskedCount s c) := by
  rw [maskedCount_eq_shiftCount]
  cases op with
  | rol | ror | rcl | rcr | shl | shr | sar =>
    simp only [shiftForms, List.forall_mem_cons]
    exact ⟨rfl, rfl, List.forall_mem_nil _⟩

theorem State.shiftFlags_flagsOnly {n : Nat} (a r : BitVec n) (b : Bool) :
    FlagsOnly s (s.shiftFlags op k a r b) := by
  obtain ⟨-, -, -, -, -, -, hvm⟩ := s.shiftFlags_sameControl op k a r b
  refine .of_eq hvm ?_
  by_cases hk : k = 1
  · subst hk
    rw [State.shiftFlags_one]
    split <;> rfl
  · rw [State.shiftFlags_of_ne s op hk]
    split <;> rfl

theorem two_le_bits (w : Width) : 2 ≤ w.bits := by
  cases w <;> decide

/-- OF of a single rotate to the right: the exclusive-or of the two topmost bits of the result. -/
theorem getLsbD_sub_two (hw : 2 ≤ k) (r : BitVec k) : r.getLsbD (k - 2) = r.getMsbD 1 := by
  rw [BitVec.getMsbD, decide_eq_true (by omega), Bool.true_and]
  congr 1

/-- The flags that a shift or rotate leaves are those of its rule (R396, R421). -/
theorem State.shiftFlags_spec {n : Nat} (hn : 2 ≤ n) (a r : BitVec n) (b : Bool) :
    ShiftFlags op k s.flags (s.shiftFlags op k a r b).flags a r b := by
  suffices hrest : _ ∧ _ from ⟨hrest.1, s.shiftFlags_sameControl op k a r b, hrest.2⟩
  by_cases hk : k = 1
  · subst hk
    rw [State.shiftFlags_one]
    cases op with
    | rol | rcl => exact ⟨rfl, fun _ => rfl, rfl, rfl, rfl, rfl⟩
    | ror | rcr => exact ⟨rfl, fun _ => congrArg (r.msb ^^ ·) (getLsbD_sub_two hn r), rfl, rfl, rfl, rfl⟩
    | shl | shr | sar => exact ⟨rfl, fun _ => rfl, rfl, rfl, rfl⟩
  · rw [State.shiftFlags_of_ne s op hk]
    cases op with
    | rol | rcl | ror | rcr => exact ⟨rfl, fun h => absurd h hk, rfl, rfl, rfl, rfl⟩
    | shl | shr | sar => exact ⟨rfl, fun h => absurd h hk, rfl, rfl, rfl⟩

/-- A count of 0 leaves OF undefined and nothing else (R396). -/
theorem State.shiftRM_zero {a : BitVec w.bits} (h : s.readDest w rm = .ok a) :
    s.shiftRM op w rm 0 = .ok (s.undefineFlags [.ofl]) := by
  simp only [State.shiftRM, if_pos, h]

/-- Another count stores what the loop gives, with the flags of the rule (R396, R421). -/
theorem State.shiftRM_of_ne {a : BitVec w.bits} (h : s.readDest w rm = .ok a) (hk : k ≠ 0) :
    ∃ t, s.shiftRM op w rm k = .ok t ∧ Stores s t w rm (op.loop k a s.flags.cf).1 ∧
      ShiftFlags op k s.flags t.flags a (op.loop k a s.flags.cf).1 (op.loop k a s.flags.cf).2 ∧ Kept s t := by
  obtain ⟨t, ht, hstores, hkept, hflags, -⟩ := State.updateRM_of h (fun a => ((op.loop k a s.flags.cf).1,
    s.shiftFlags op k a (op.loop k a s.flags.cf).1 (op.loop k a s.flags.cf).2)) (State.shiftFlags_flagsOnly ..)
  exact ⟨t, by rw [State.shiftRM, if_neg hk, ht], hstores, hflags ▸ State.shiftFlags_spec (two_le_bits w) .., hkept⟩

end Shifts

/-- Settles O5: every form runs one read-modify-write (`exec_shiftForms`), with a case for a count of 0
(`State.shiftRM_zero`) and one for another (`State.shiftRM_of_ne`). -/
theorem shiftsAndRotatesStoreLoopResult : Obligations.ShiftsAndRotatesStoreLoopResult := by
  refine fun op s rm c hs i hi a ha => ⟨fun hzero => ?_, fun hne => ?_⟩
  · have hbody : s.shiftRM op i.2 rm (maskedCount s c) = .ok (s.undefineFlags [.ofl]) := by
      rw [hzero, State.shiftRM_zero ha]
    have hframe : FlagsOnly s (s.undefineFlags [.ofl]) := State.undefineFlags_flagsOnly _
    exact ⟨_, (exec_shiftForms i hi).trans (perform_plain hs hbody), rfl, hframe.gpr_eq, hframe.kept, hframe.sameMem⟩
  · obtain ⟨t, ht, hspec⟩ := State.shiftRM_of_ne ha hne
    exact ⟨t, (exec_shiftForms i hi).trans (perform_plain hs ht), hspec⟩

/-! ### SHLD and SHRD -/

section DoubleShifts

variable {s : State} {left : Bool} {w : Width} {rm : RM} {r : Reg} {i8 : BitVec 8} {k : Nat}

theorem exec_doubleForms : ∀ i ∈ doubleForms left s rm r i8,
    exec i.1 s = perform .none s fun _ => s.doubleShift left s.opSize.width rm r i.2 := by
  rw [doubleForms, toNat_and_31, maskedCount_eq_shiftCount]
  cases left with
  | true =>
    simp only [if_pos, List.forall_mem_cons]
    exact ⟨(exec_shldImm8 s rm r i8).trans (perform_const_body _ s _),
      (exec_shldCl s rm r).trans (perform_const_body _ s _), List.forall_mem_nil _⟩
  | false =>
    simp only [Bool.false_eq_true, if_false, List.forall_mem_cons]
    exact ⟨(exec_shrdImm8 s rm r i8).trans (perform_const_body _ s _),
      (exec_shrdCl s rm r).trans (perform_const_body _ s _), List.forall_mem_nil _⟩

theorem State.doubleShift_zero {a : BitVec w.bits} (h : s.readDest w rm = .ok a) :
    s.doubleShift left w rm r 0 = .ok s := by
  simp only [State.doubleShift, if_pos, h]

/-- A count of the width or more leaves the destination and the status flags undefined (R429, R430). -/
theorem State.doubleShift_of_le {a : BitVec w.bits} (h : s.readDest w rm = .ok a) (hk : w.bits ≤ k) :
    ∃ t v, s.doubleShift left w rm r k = .ok t ∧ Stores s t w rm v ∧ Kept s t ∧ s.flags.sameControl t.flags := by
  have hne : k ≠ 0 := (lt_of_lt_of_le w.bits_pos hk).ne'
  have hcontrol := s.flags.setFrom_sameControl (Config.freeBits (s.draws + 1)) [.cf, .pf, .af, .zf, .sf, .ofl]
  obtain ⟨t, ht, hstores, hkept, hflags, -⟩ := State.updateRM_of h
    (fun _ => (s.draw.1.setWidth _, s.draw.2.undefineFlags [.cf, .pf, .af, .zf, .sf, .ofl])) (.of_eq rfl rfl)
  exact ⟨t, _, by rw [State.doubleShift, if_neg hne, if_pos hk, ht], hstores, hkept, hflags ▸ hcontrol⟩

/-- The result of a double shift and the last bit shifted out (R429, R430). -/
def doubleResult {n : Nat} (left : Bool) (a b : BitVec n) (k : Nat) : BitVec n :=
  if left then shldResult a b k else shrdResult a b k

theorem State.doubleShift_of_lt {a : BitVec w.bits} (h : s.readDest w rm = .ok a) (hpos : 0 < k) (hk : k < w.bits) :
    ∃ t, s.doubleShift left w rm r k = .ok t ∧ Stores s t w rm (doubleResult left a (s.reg w r) k) ∧ Kept s t ∧
      t.flags = (s.doubleFlags (doubleResult left a (s.reg w r) k)
        (a.getLsbD (if left then w.bits - k else k - 1))).flags := by
  obtain ⟨t, ht, hstores, hkept, hflags, -⟩ := State.updateRM_of h
    (fun a => (doubleResult left a (s.reg w r) k,
      s.doubleFlags (doubleResult left a (s.reg w r) k) (a.getLsbD (if left then w.bits - k else k - 1))))
    (.of_eq rfl rfl)
  refine ⟨t, ?_, hstores, hkept, hflags⟩
  rw [State.doubleShift, if_neg hpos.ne', if_neg hk.not_ge, ← ht]
  cases left <;> rfl

end DoubleShifts

/-- Settles O7: both forms run one operation (`exec_doubleForms`), which has a case for a count of 0, for one below the
width (`State.doubleShift_of_lt`) and for another (`State.doubleShift_of_le`). -/
theorem doubleShiftsTakeInRegisterBits : Obligations.DoubleShiftsTakeInRegisterBits := by
  refine fun left s rm r i8 hs i hi a ha => ⟨fun hzero => ?_, fun hpos hlt => ?_, fun hle => ?_⟩
  · have hbody : s.doubleShift left s.opSize.width rm r i.2 = .ok s := by rw [hzero, State.doubleShift_zero ha]
    exact ⟨s, (exec_doubleForms i hi).trans (perform_plain hs hbody), rfl, rfl, FlagsOnly.refl.kept,
      FlagsOnly.refl.sameMem⟩
  · obtain ⟨t, ht, hstores, hkept, hflags⟩ := State.doubleShift_of_lt (left := left) (r := r) ha hpos hlt
    refine ⟨t, _, (exec_doubleForms i hi).trans (perform_plain hs ht), hstores, hkept, rfl, ?_⟩
    rw [hflags]
    exact ⟨rfl, ⟨rfl, rfl, rfl⟩, rfl, rfl, rfl, rfl, rfl, rfl, rfl⟩
  · obtain ⟨t, v, ht, hspec⟩ := State.doubleShift_of_le (left := left) (r := r) ha hle
    exact ⟨t, v, (exec_doubleForms i hi).trans (perform_plain hs ht), hspec⟩

end Sys2Proof.Machine

/-! PROOFS. O6: what the loops of the shifts and rotates compute, for every width of two bits or more. -/

namespace Sys2Proof.Machine

section Loops

variable {n : Nat}

/-- A pass more at the end of the loop is a pass more at its start. -/
theorem ShiftOp.loop_succ (op : ShiftOp) (k : Nat) (v : BitVec n) (c : Bool) :
    op.loop (k + 1) v c = op.once (op.loop k v c).1 (op.loop k v c).2 := by
  induction k generalizing v c with
  | zero => rfl
  | succ k ih => exact ih (op.once v c).1 (op.once v c).2

/-! ### Shifts -/

theorem ShiftOp.loop_shl_fst (k : Nat) (a : BitVec n) (c : Bool) : (ShiftOp.shl.loop k a c).1 = a <<< k := by
  induction k with
  | zero => exact (BitVec.shiftLeft_zero a).symm
  | succ k ih => rw [ShiftOp.loop_succ, ShiftOp.once, ih, BitVec.shiftLeft_add]

theorem ShiftOp.loop_shl (k : Nat) (a : BitVec n) (c : Bool) : ShiftOp.shl.loop (k + 1) a c =
    (a <<< (k + 1), decide (k + 1 ≤ n) && a.getLsbD (n - (k + 1))) := by
  refine Prod.ext (loop_shl_fst _ a c) ?_
  rw [ShiftOp.loop_succ, ShiftOp.once, loop_shl_fst, BitVec.msb_shiftLeft, BitVec.getMsbD, Nat.sub_sub, Nat.add_comm 1]
  rfl

theorem ShiftOp.loop_shr_fst (k : Nat) (a : BitVec n) (c : Bool) : (ShiftOp.shr.loop k a c).1 = a >>> k := by
  induction k with
  | zero => exact (BitVec.ushiftRight_zero a).symm
  | succ k ih => rw [ShiftOp.loop_succ, ShiftOp.once, ih, BitVec.shiftRight_add]

theorem ShiftOp.loop_shr (k : Nat) (a : BitVec n) (c : Bool) :
    ShiftOp.shr.loop (k + 1) a c = (a >>> (k + 1), a.getLsbD k) := by
  refine Prod.ext (loop_shr_fst _ a c) ?_
  rw [ShiftOp.loop_succ, ShiftOp.once, loop_shr_fst, BitVec.getLsbD_ushiftRight, Nat.add_zero]

theorem ShiftOp.loop_sar_fst (k : Nat) (a : BitVec n) (c : Bool) :
    (ShiftOp.sar.loop k a c).1 = a.sshiftRight k := by
  induction k with
  | zero => exact BitVec.sshiftRight_zero.symm
  | succ k ih => rw [ShiftOp.loop_succ, ShiftOp.once, ih, BitVec.sshiftRight_add]

theorem ShiftOp.loop_sar (k : Nat) (a : BitVec n) (c : Bool) :
    ShiftOp.sar.loop (k + 1) a c = (a.sshiftRight (k + 1), (a.sshiftRight k).getLsbD 0) := by
  refine Prod.ext (loop_sar_fst _ a c) ?_
  rw [ShiftOp.loop_succ, ShiftOp.once, loop_sar_fst]

/-! ### Rotations by one -/

theorem rotateLeft_succ (v : BitVec n) (k : Nat) : v.rotateLeft (k + 1) = (v.rotateLeft k).rotateLeft 1 := by
  refine BitVec.eq_of_getMsbD_eq fun i hi => ?_
  have hpos : (1 + i) % n < n := Nat.mod_lt _ (by omega)
  simp only [BitVec.getMsbD_rotateLeft, hi, hpos, decide_true, Bool.true_and, Nat.add_mod_mod, Nat.add_assoc]

theorem getLsbD_rotateRight_of_lt (v : BitVec n) (k : Nat) {i : Nat} (hi : i < n) :
    (v.rotateRight k).getLsbD i = v.getLsbD ((k + i) % n) := by
  have hlt : k % n < n := Nat.mod_lt _ (by omega)
  rw [BitVec.getLsbD_rotateRight, Nat.add_mod_eq_ite, Nat.mod_eq_of_lt hi]
  by_cases hwrap : i < n - k % n
  · rw [decide_eq_true hwrap, if_neg (by omega)]
    rfl
  · rw [decide_eq_false hwrap, if_pos (by omega), decide_eq_true hi,
      show i - (n - k % n) = k % n + i - n by omega]
    rfl

theorem rotateRight_succ (v : BitVec n) (k : Nat) : v.rotateRight (k + 1) = (v.rotateRight k).rotateRight 1 := by
  refine BitVec.eq_of_getLsbD_eq fun i hi => ?_
  have hpos : (1 + i) % n < n := Nat.mod_lt _ (by omega)
  rw [getLsbD_rotateRight_of_lt _ _ hi, getLsbD_rotateRight_of_lt _ _ hi, getLsbD_rotateRight_of_lt _ _ hpos,
    Nat.add_mod_mod, Nat.add_assoc]

theorem getLsbD_ofNat_toNat (b : Bool) (i : Nat) :
    (BitVec.ofNat n b.toNat).getLsbD i = (decide (i < n) && (decide (i = 0) && b)) := by
  rw [BitVec.getLsbD_ofNat, Nat.testBit_bool_toNat]

theorem getLsbD_shiftLeft_one_or (v : BitVec n) (b : Bool) {i : Nat} (hi : i < n) :
    (v <<< 1 ||| BitVec.ofNat n b.toNat).getLsbD i = if i = 0 then b else v.getLsbD (i - 1) := by
  rw [BitVec.getLsbD_or, BitVec.getLsbD_shiftLeft, getLsbD_ofNat_toNat]
  rcases i with - | i <;> simp [hi]

theorem getLsbD_shiftRight_one_or (v : BitVec n) (b : Bool) {i : Nat} (hi : i < n) :
    (v >>> 1 ||| BitVec.ofNat n b.toNat <<< (n - 1)).getLsbD i = if i = n - 1 then b else v.getLsbD (i + 1) := by
  rw [BitVec.getLsbD_or, BitVec.getLsbD_shiftLeft, BitVec.getLsbD_ushiftRight, getLsbD_ofNat_toNat]
  by_cases htop : i = n - 1
  · subst htop
    simp [show 1 + (n - 1) = n by omega, show 0 < n by omega]
  · simp [htop, hi, show i < n - 1 by omega, Nat.add_comm]

/-! ### Rotates -/

theorem getLsbD_rotateLeft_one (hn : 2 ≤ n) (v : BitVec n) {i : Nat} (hi : i < n) :
    (v.rotateLeft 1).getLsbD i = if i = 0 then v.msb else v.getLsbD (i - 1) := by
  rw [BitVec.getLsbD_rotateLeft, Nat.mod_eq_of_lt (by omega), BitVec.msb_eq_getLsbD_last]
  rcases i with - | i <;> simp [hi]

theorem getLsbD_rotateRight_one (hn : 2 ≤ n) (v : BitVec n) {i : Nat} (hi : i < n) :
    (v.rotateRight 1).getLsbD i = if i = n - 1 then v.getLsbD 0 else v.getLsbD (i + 1) := by
  rw [getLsbD_rotateRight_of_lt v 1 hi]
  by_cases htop : i = n - 1
  · rw [if_pos htop, show 1 + i = n by omega, Nat.mod_self]
  · rw [if_neg htop, Nat.mod_eq_of_lt (by omega), Nat.add_comm]

theorem shiftLeft_or_msb (hn : 2 ≤ n) (v : BitVec n) :
    v <<< 1 ||| BitVec.ofNat n v.msb.toNat = v.rotateLeft 1 :=
  BitVec.eq_of_getLsbD_eq fun _ hi => by rw [getLsbD_shiftLeft_one_or v _ hi, getLsbD_rotateLeft_one hn v hi]

theorem shiftRight_or_lsb (hn : 2 ≤ n) (v : BitVec n) :
    v >>> 1 ||| BitVec.ofNat n (v.getLsbD 0).toNat <<< (n - 1) = v.rotateRight 1 :=
  BitVec.eq_of_getLsbD_eq fun _ hi => by rw [getLsbD_shiftRight_one_or v _ hi, getLsbD_rotateRight_one hn v hi]

theorem rotateLeft_zero (v : BitVec n) : v.rotateLeft 0 = v :=
  BitVec.eq_of_getMsbD_eq fun i hi => by simp [BitVec.getMsbD_rotateLeft, hi, Nat.mod_eq_of_lt hi]

theorem rotateRight_zero (v : BitVec n) : v.rotateRight 0 = v :=
  BitVec.eq_of_getLsbD_eq fun i hi => by rw [getLsbD_rotateRight_of_lt v 0 hi, Nat.zero_add, Nat.mod_eq_of_lt hi]

theorem ShiftOp.loop_rol_fst (hn : 2 ≤ n) (k : Nat) (a : BitVec n) (c : Bool) :
    (ShiftOp.rol.loop k a c).1 = a.rotateLeft k := by
  induction k with
  | zero => exact (rotateLeft_zero a).symm
  | succ k ih => rw [ShiftOp.loop_succ, ShiftOp.once, ih, shiftLeft_or_msb hn, ← rotateLeft_succ]

/-- CF of ROL is the bit that went round to the bottom (R397). -/
theorem ShiftOp.loop_rol (hn : 2 ≤ n) (k : Nat) (a : BitVec n) (c : Bool) : ShiftOp.rol.loop (k + 1) a c =
    (a.rotateLeft (k + 1), (a.rotateLeft (k + 1)).getLsbD 0) := by
  refine Prod.ext (loop_rol_fst hn _ a c) ?_
  rw [rotateLeft_succ, getLsbD_rotateLeft_one hn _ (by omega), ShiftOp.loop_succ, ShiftOp.once, loop_rol_fst hn]
  rfl

theorem ShiftOp.loop_ror_fst (hn : 2 ≤ n) (k : Nat) (a : BitVec n) (c : Bool) :
    (ShiftOp.ror.loop k a c).1 = a.rotateRight k := by
  induction k with
  | zero => exact (rotateRight_zero a).symm
  | succ k ih => rw [ShiftOp.loop_succ, ShiftOp.once, ih, shiftRight_or_lsb hn, ← rotateRight_succ]

/-- CF of ROR is the bit that went round to the top (R398). -/
theorem ShiftOp.loop_ror (hn : 2 ≤ n) (k : Nat) (a : BitVec n) (c : Bool) : ShiftOp.ror.loop (k + 1) a c =
    (a.rotateRight (k + 1), (a.rotateRight (k + 1)).msb) := by
  refine Prod.ext (loop_ror_fst hn _ a c) ?_
  rw [rotateRight_succ, BitVec.msb_eq_getLsbD_last, getLsbD_rotateRight_one hn _ (by omega), if_pos rfl,
    ShiftOp.loop_succ, ShiftOp.once, loop_ror_fst hn]

/-! ### Rotates through CF -/

/-- CF above the operand, as one word of one bit more. -/
def withCarry (p : BitVec n × Bool) : BitVec (n + 1) := BitVec.cons p.2 p.1

theorem getLsbD_withCarry (p : BitVec n × Bool) (i : Nat) :
    (withCarry p).getLsbD i = if i = n then p.2 else p.1.getLsbD i := BitVec.getLsbD_cons ..

theorem msb_withCarry (p : BitVec n × Bool) : (withCarry p).msb = p.2 := by
  rw [BitVec.msb_eq_getLsbD_last, getLsbD_withCarry, if_pos (Nat.add_sub_cancel n 1)]

theorem withCarry_once_rcl (hn : 0 < n) (p : BitVec n × Bool) :
    withCarry (ShiftOp.rcl.once p.1 p.2) = (withCarry p).rotateLeft 1 := by
  refine BitVec.eq_of_getLsbD_eq fun i hi => ?_
  rw [getLsbD_rotateLeft_one (by omega) _ hi, msb_withCarry, getLsbD_withCarry, getLsbD_withCarry, ShiftOp.once,
    if_neg (show i - 1 ≠ n by omega)]
  by_cases htop : i = n
  · rw [if_pos htop, if_neg (by omega), BitVec.msb_eq_getLsbD_last, htop]
  · rw [if_neg htop, getLsbD_shiftLeft_one_or _ _ (by omega)]

theorem withCarry_once_rcr (hn : 0 < n) (p : BitVec n × Bool) :
    withCarry (ShiftOp.rcr.once p.1 p.2) = (withCarry p).rotateRight 1 := by
  refine BitVec.eq_of_getLsbD_eq fun i hi => ?_
  rw [getLsbD_rotateRight_one (by omega) _ hi, getLsbD_withCarry, getLsbD_withCarry, getLsbD_withCarry, ShiftOp.once,
    if_neg (show 0 ≠ n by omega), Nat.add_sub_cancel]
  by_cases htop : i = n
  · rw [if_pos htop, if_pos htop]
  · rw [if_neg htop, if_neg htop, getLsbD_shiftRight_one_or _ _ (by omega)]
    exact if_congr (by omega) rfl rfl

theorem withCarry_loop_rcl (hn : 0 < n) (k : Nat) (a : BitVec n) (c : Bool) :
    withCarry (ShiftOp.rcl.loop k a c) = (withCarry (a, c)).rotateLeft k := by
  induction k with
  | zero => exact (rotateLeft_zero _).symm
  | succ k ih => rw [ShiftOp.loop_succ, withCarry_once_rcl hn, ih, ← rotateLeft_succ]

theorem withCarry_loop_rcr (hn : 0 < n) (k : Nat) (a : BitVec n) (c : Bool) :
    withCarry (ShiftOp.rcr.loop k a c) = (withCarry (a, c)).rotateRight k := by
  induction k with
  | zero => exact (rotateRight_zero _).symm
  | succ k ih => rw [ShiftOp.loop_succ, withCarry_once_rcr hn, ih, ← rotateRight_succ]

end Loops

/-- Settles O6: the closed forms of the loops, one more pass at a time (`ShiftOp.loop_succ`); RCL and RCR are rotations of
the operand with CF above it (`withCarry`). -/
theorem shiftLoopsAreShiftsAndRotations : Obligations.ShiftLoopsAreShiftsAndRotations := by
  refine fun w k a c hpos _ => ?_
  obtain ⟨k, rfl⟩ := Nat.exists_eq_add_of_le' hpos
  have hn := two_le_bits w
  exact ⟨ShiftOp.loop_shl k a c, ShiftOp.loop_shr k a c, ShiftOp.loop_sar k a c, ShiftOp.loop_rol hn k a c,
    ShiftOp.loop_ror hn k a c, withCarry_loop_rcl w.bits_pos _ a c, withCarry_loop_rcr w.bits_pos _ a c⟩

end Sys2Proof.Machine

/-! PROOFS. O10, O16, O43: SETcc, exchanges and the stores of the system registers. -/

namespace Sys2Proof.Machine

open Claims (Condition baseBits setForms)

/-! ### SETcc -/

theorem exec_setForms {s : State} {rm : RM} : ∀ i ∈ setForms rm,
    exec i.2 s = perform .none s fun s => s.setCond i.1 rm := by
  simp only [setForms, List.forall_mem_cons]
  exact ⟨exec_seto s rm, exec_setno s rm, exec_setb s rm, exec_setnb s rm, exec_setz s rm, exec_setnz s rm,
    exec_setbe s rm, exec_setnbe s rm, exec_sets s rm, exec_setns s rm, exec_setp s rm, exec_setnp s rm,
    exec_setl s rm, exec_setnl s rm, exec_setle s rm, exec_setnle s rm, List.forall_mem_nil _⟩

/-- SETcc stores the truth value of its condition (R427). -/
theorem State.setCond_of {s : State} {rm : RM} {n : Nat} {b : Bool} (hcheck : s.checkRM .b8 rm = .ok ())
    (hb : s.flags.cond n = b) : ∃ t, s.setCond n rm = .ok t ∧ Stores s t .b8 rm (BitVec.ofNat 8 b.toNat) ∧
      t.flags = s.flags ∧ Kept s t := by
  subst hb
  obtain ⟨t, ht, hstores, hkept, hflags⟩ :=
    FlagsOnly.refl.writeRM_of_check hcheck (BitVec.ofNat 8 (s.flags.cond n).toNat)
  exact ⟨t, ht, hstores, hflags, hkept⟩

/-- Settles O10: every form stores the truth value of its condition (`State.setCond_of`), which is the condition that
the rule names (`Flags.cond_iff`). -/
theorem setOnConditionStoresOneOrZero : Obligations.SetOnConditionStoresOneOrZero := by
  refine fun s rm hs hcheck i hi => ⟨fun hcond => ?_, fun hcond => ?_⟩
  · obtain ⟨t, ht, hspec⟩ := State.setCond_of hcheck ((Flags.cond_iff _ _).2 hcond)
    exact ⟨t, (exec_setForms i hi).trans (perform_plain hs ht), hspec⟩
  · have hfalse : s.flags.cond i.1 = false := Bool.eq_false_iff.2 fun h => hcond ((Flags.cond_iff _ _).1 h)
    obtain ⟨t, ht, hspec⟩ := State.setCond_of hcheck hfalse
    exact ⟨t, (exec_setForms i hi).trans (perform_plain hs ht), hspec⟩

/-! ### XCHG and NOP -/

section Exchanges

variable {s : State} {w : Width} {ea : EA} {q r : Reg}

theorem exec_xchgRegForms : ∀ i ∈ [(Instr.xchgRm8R8 (.reg q) r, Width.b8, q, r),
    (.xchgRmvRv (.reg q) r, s.opSize.width, q, r), (.xchgEaxRv r, s.opSize.width, r, .eax)],
    s.plain → exec i.1 s = s.settle (s.xchgRM i.2.1 (.reg i.2.2.1) i.2.2.2) := by
  simp only [List.forall_mem_cons]
  exact ⟨fun hs => (exec_xchgRm8R8 s (.reg q) r).trans (perform_allowed (GroupRule.allows_plain _ hs)),
    fun hs => (exec_xchgRmvRv s (.reg q) r).trans (perform_allowed (GroupRule.allows_plain _ hs)),
    fun hs => (exec_xchgEaxRv s r).trans (perform_allowed (GroupRule.allows_plain _ hs)), List.forall_mem_nil _⟩

theorem exec_xchgMemForms (hlock : Claims.LockFits s (.mem ea)) :
    ∀ i ∈ [(Instr.xchgRm8R8 (.mem ea) r, Width.b8), (.xchgRmvRv (.mem ea) r, s.opSize.width)],
    exec i.1 s = s.settle (s.xchgRM i.2 (.mem ea) r) := by
  simp only [List.forall_mem_cons]
  exact ⟨(exec_xchgRm8R8 s _ r).trans (perform_allowed (GroupRule.allows_of_lockFits hlock)),
    (exec_xchgRmvRv s _ r).trans (perform_allowed (GroupRule.allows_of_lockFits hlock)), List.forall_mem_nil _⟩

theorem State.xchgRM_reg :
    s.xchgRM w (.reg q) r = .ok ((s.setReg w q (s.reg w r)).setReg w r (s.reg w q)) := rfl

theorem State.xchgRM_mem {a : BitVec w.bits} (ha : s.readDest w (.mem ea) = .ok a) :
    ∃ t, s.xchgRM w (.mem ea) r = .ok t ∧ t.gpr = s.gpr.write w r a ∧
      StoresAt s t (s.eaSeg ea) w (s.eaOff ea) (s.reg w r) ∧ t.flags = s.flags ∧ Kept s t := by
  obtain ⟨hcheck, -⟩ := State.readDest_ok ha
  obtain ⟨t, ht, ⟨hgpr, hstores⟩, hkept, hflags⟩ := FlagsOnly.refl.writeRM_of_check hcheck (s.reg w r)
  exact ⟨t.setReg w r a, by rw [State.xchgRM, ha]; simp only [ht], by rw [State.setReg_gpr, hgpr], hstores, hflags,
    hkept.setReg⟩

end Exchanges

/-- Settles O16: the register forms write both registers with the values from before (`State.xchgRM_reg`); with a memory
operand the store takes place where the operand can be read and written (`State.xchgRM_mem`). -/
theorem exchangesSwapTheirOperands : Obligations.ExchangesSwapTheirOperands := by
  refine fun s r => ⟨fun q hs i hi => ?_, fun ea hlock i hi a ha => ?_, fun hs => ?_⟩
  · have hframe : FlagsOnly s s := .refl
    exact ⟨_, (exec_xchgRegForms i hi hs).trans (congrArg s.settle State.xchgRM_reg), rfl, hframe.setReg_kept.setReg,
      hframe.sameMem, rfl⟩
  · obtain ⟨t, ht, hspec⟩ := State.xchgRM_mem (r := r) ha
    exact ⟨t, (exec_xchgMemForms hlock i hi).trans (congrArg s.settle ht), hspec⟩
  · exact (exec_nop s).trans (perform_plain hs rfl)

/-! ### SLDT, STR, SMSW, SGDT, SIDT -/

section SystemStores

variable {s : State} {rm : RM} {ea : EA}

theorem State.storeSystem_of {sel : BitVec 16} (hp : s.protectedMode = true) (hcheck : s.checkRM .w16 rm = .ok ()) :
    ∃ t, s.storeSystem rm sel = .ok t ∧ Stores s t .w16 rm sel ∧ t.flags = s.flags ∧ Kept s t := by
  obtain ⟨t, ht, hstores, hkept, hflags⟩ := FlagsOnly.refl.writeRM_of_check hcheck sel
  exact ⟨t, by rw [State.storeSystem, State.needProtected_of hp, ← ht], hstores, hflags, hkept⟩

/-- SMSW into a register fills its low half; what is above it is free at a 32-bit operand size (R432). -/
theorem State.storeWordFree_eReg (q : Reg) (v : BitVec 16) : ∃ t x, s.storeWordFree (.reg q) v = .ok t ∧
    t.gpr = (s.setEReg s.opSize q x).gpr ∧ x.setWidth 16 = v ∧ t.flags = s.flags ∧ Kept s t ∧ SameMem s t := by
  obtain ⟨t, x, ht, hflags, hkept, hmem, hgpr, hlow⟩ := s.storeWordFree_reg q v
  have hword : (x.setWidth 32).setWidth 16 = v := by
    rw [← hlow]
    exact BitVec.setWidth_setWidth_of_le x (by omega)
  exact ⟨t, x.setWidth 32, ht, by rw [hgpr, State.setEReg_gpr, Size.setWidth_setWidth], hword, hflags, hkept, hmem⟩

/-- Bytes whose range passes its write check are stored. -/
theorem State.memWriteBytes_of_check {r : SReg} {off : BitVec 32} {bs : List Byte}
    (hcheck : s.writeCheck r off bs.length = .ok ()) : ∃ t, s.memWriteBytes r off bs = .ok t ∧ t.gpr = s.gpr ∧
      t.flags = s.flags ∧ Kept s t ∧ Claims.StoresBytes s t r off bs := by
  obtain ⟨hacc, ps, hps⟩ := State.writeCheck_ok hcheck
  have hwrite : s.memWriteBytes r off bs =
      .ok { s.noteStores bs.length (s.linear r off) with mem := memSetBytes s.mem ps bs } := by
    rw [State.memWriteBytes, if_pos hacc, State.linWriteBytes, hps]
  exact ⟨_, hwrite, by simp, by simp,
    ⟨by simp, by simp, by simp, by simp, by simp, by simp, State.noteStores_seq _ _ _⟩, ps, hps, rfl,
    fun a ha => memByte_memSetBytes_other _ _ _ ha⟩

theorem TableReg.bytes_length (x : TableReg) (z : Size) : (x.bytes z).length = 6 := by
  simp [TableReg.bytes]

/-- SGDT and SIDT store six bytes, the limit and then the base (R428). -/
theorem State.storeTable_of_check (x : TableReg) (hcheck : s.writeCheck (s.eaSeg ea) (s.eaOff ea) 6 = .ok ()) :
    ∃ t, s.storeTable (.mem ea) x = .ok t ∧ t.gpr = s.gpr ∧ t.flags = s.flags ∧ Kept s t ∧
      Claims.StoresBytes s t (s.eaSeg ea) (s.eaOff ea)
        (leBytes 2 x.limit.toNat ++ leBytes 4 (baseBits s x.base).toNat) := by
  rw [← x.bytes_length s.opSize] at hcheck
  rw [← tableBase_opSize]
  exact State.memWriteBytes_of_check hcheck

theorem exec_tableStores : ∀ i ∈ [(Instr.sgdt rm, s.tables.gdtr), (.sidt rm, s.tables.idtr)],
    exec i.1 s = perform .none s fun _ => s.storeTable rm i.2 := by
  simp only [List.forall_mem_cons]
  exact ⟨(exec_sgdt s rm).trans (perform_const_body _ s _), (exec_sidt s rm).trans (perform_const_body _ s _),
    List.forall_mem_nil _⟩

end SystemStores

/-- Settles O43: each form is one store, which takes place where its write check passes (`State.storeSystem_of`,
`State.storeWordFree_eReg`, `State.storeTable_of_check`). -/
theorem systemRegisterStores : Obligations.SystemRegisterStores := by
  refine fun s hs => ⟨fun rm hp hcheck => ⟨?_, ?_⟩, fun ea hcheck => ?_, fun q => ?_, fun ea hcheck i hi => ?_,
    fun q => ⟨?_, ?_⟩⟩
  · obtain ⟨t, ht, hspec⟩ := State.storeSystem_of hp hcheck
    exact ⟨t, (exec_sldt s rm).trans (perform_plain hs ht), hspec⟩
  · obtain ⟨t, ht, hspec⟩ := State.storeSystem_of hp hcheck
    exact ⟨t, (exec_str s rm).trans (perform_plain hs ht), hspec⟩
  · obtain ⟨t, ht, hstores, hkept, hflags⟩ :=
      FlagsOnly.refl.writeRM_of_check hcheck (s.ctrl.cr0.image.setWidth 16)
    exact ⟨t, (exec_smsw s (.mem ea)).trans (perform_plain hs ht), hstores, hflags, hkept⟩
  · obtain ⟨t, x, ht, hspec⟩ := s.storeWordFree_eReg q (s.ctrl.cr0.image.setWidth 16)
    exact ⟨t, x, (exec_smsw s (.reg q)).trans (perform_plain hs ht), hspec⟩
  · obtain ⟨t, ht, hspec⟩ := State.storeTable_of_check i.2 hcheck
    exact ⟨t, (exec_tableStores i hi).trans (perform_plain hs ht), hspec⟩
  · exact (exec_sgdt s (.reg q)).trans (perform_plain_raise hs rfl)
  · exact (exec_sidt s (.reg q)).trans (perform_plain_raise hs rfl)

end Sys2Proof.Machine

/-! PROOFS. O20, O21: pushes and pops of one item. -/

namespace Sys2Proof.Machine

open Claims (NoWrap PushFits Pushed pushSegs)

/-! ### PUSH and PUSHF -/

section Pushes

variable {s : State} {i : Instr} {x : BitVec 32}

theorem State.needIopl_of (h : ¬ (s.v86Mode = true ∧ s.flags.iopl < 3)) : s.needIopl = .ok () :=
  need_ok.2 (by grind)

theorem exec_pushRmv_of {rm : RM} {a : BitVec s.opSize.width.bits} (ha : s.readRM s.opSize.width rm = .ok a) :
    exec (.pushRmv rm) s = perform .none s fun _ => s.pushOrShutdown s.opSize (a.setWidth 32) := by
  rw [exec_pushRmv, execPushRmv, perform_const_body, State.pushRM, ha]

theorem exec_pushRv_eq (r : Reg) : exec (.pushRv r) s =
    perform .none s fun _ => s.pushOrShutdown s.opSize ((s.reg s.opSize.width r).setWidth 32) := rfl

theorem exec_pushImmv_eq (iv : VImm) :
    exec (.pushImmv iv) s = perform .none s fun _ => s.pushOrShutdown s.opSize iv.zext := rfl

theorem exec_pushImm8_eq (i8 : BitVec 8) :
    exec (.pushImm8 i8) s = perform .none s fun _ => s.pushOrShutdown s.opSize (i8.signExtend 32) := rfl

theorem exec_pushf_of (h : ¬ (s.v86Mode = true ∧ s.flags.iopl < 3)) : exec .pushf s =
    perform .none s fun _ => s.pushOrShutdown s.opSize { s.flags with vm := false, rf := false }.image := by
  rw [exec_pushf, execPushf, perform_const_body, State.pushFlags, State.needIopl_of h]

/-- A push that fits and straddles no stack top takes place (R393). -/
theorem exec_push_fits (hs : s.plain) (hwrap : NoWrap s) (hfits : PushFits s)
    (hi : exec i s = perform .none s fun _ => s.pushOrShutdown s.opSize x) :
    ∃ t, exec i s = .next t ∧ Pushed s t s.opSize (x.setWidth _) := by
  obtain ⟨t, ht, hpushed⟩ := State.pushOrShutdown_of (State.pushWraps_of_noWrap hwrap) hfits x
  exact ⟨t, hi.trans (perform_plain hs ht), hpushed⟩

/-- A byte sign-extended and cut to the operand size keeps its value (R393). -/
theorem toInt_signExtend_opSize (z : Size) (i8 : BitVec 8) :
    ((i8.signExtend 32).setWidth z.width.bits).toInt = i8.toInt := by
  cases z with
  | s16 =>
    have hcut : (i8.signExtend 32).setWidth 16 = i8.signExtend 16 := by
      ext j hj
      rw [BitVec.getElem_setWidth, BitVec.getLsbD_eq_getElem (by omega), BitVec.getElem_signExtend,
        BitVec.getElem_signExtend]
    exact (congrArg BitVec.toInt hcut).trans (BitVec.toInt_signExtend_of_le (by decide))
  | s32 => simp [Size.width, Width.bits, BitVec.toInt_signExtend_of_le]

theorem State.pushWraps_of_not_noWrap (h : ¬ NoWrap s) : s.pushWraps s.opSize 1 = true := by
  rw [State.pushWraps, Nat.one_mul]
  simpa [NoWrap] using h

theorem State.pushOrShutdown_of_wraps {z : Size} (h : s.pushWraps z 1 = true) :
    s.pushOrShutdown z x = .error .shutdown := by
  rw [State.pushOrShutdown, State.pushCheck, if_pos h]

/-- A push that straddles a 64K stack top shuts the machine down, with EIP at the instruction (R393). -/
theorem exec_push_wraps (hs : s.plain) (hwrap : ¬ NoWrap s)
    (hi : exec i s = perform .none s fun _ => s.pushOrShutdown s.opSize x) :
    exec i s = .next s.restart.shutDown := by
  rw [hi, perform_allowed (GroupRule.allows_plain _ hs),
    State.pushOrShutdown_of_wraps (State.pushWraps_of_not_noWrap hwrap)]
  rfl

theorem State.pushSeg_of_wraps (r : SReg) (h : s.pushWraps s.opSize 1 = true) :
    s.pushSeg r = .error .shutdown := by
  have hpad : (s.padWord s.opSize (s.seg r).sel).2.pushWraps s.opSize 1 = true := by
    rw [← h]
    cases s.opSize <;> rfl
  exact State.pushOrShutdown_of_wraps hpad

end Pushes

/-- Settles O20: every form pushes one value (`exec_pushRmv_of` and its siblings), which takes place where the item fits
(`exec_push_fits`) and shuts the machine down where it straddles a stack top (`exec_push_wraps`). -/
theorem pushesStoreBelowTheStackTop : Obligations.PushesStoreBelowTheStackTop := by
  refine ⟨fun s hs hwrap hfits => ⟨fun r => ?_, fun rm a ha => ?_, fun iv => ?_, fun i8 => ?_, fun hiopl => ?_⟩,
    fun s hs hwrap i r iv i8 hi => ?_⟩
  · simpa only [Size.setWidth_setWidth] using exec_push_fits hs hwrap hfits (exec_pushRv_eq r)
  · simpa only [Size.setWidth_setWidth] using exec_push_fits hs hwrap hfits (exec_pushRmv_of ha)
  · exact exec_push_fits hs hwrap hfits (exec_pushImmv_eq iv)
  · obtain ⟨t, ht, hpushed⟩ := exec_push_fits hs hwrap hfits (exec_pushImm8_eq i8)
    exact ⟨t, _, ht, hpushed, toInt_signExtend_opSize s.opSize i8⟩
  · exact exec_push_fits hs hwrap hfits (exec_pushf_of hiopl)
  · obtain hi | ⟨rfl, hiopl⟩ | ⟨q, hq⟩ := hi
    · simp only [List.mem_cons, List.not_mem_nil, or_false] at hi
      obtain rfl | rfl | rfl | rfl := hi
      · exact exec_push_wraps hs hwrap (exec_pushRv_eq r)
      · exact exec_push_wraps hs hwrap (exec_pushRmv_of rfl)
      · exact exec_push_wraps hs hwrap (exec_pushImmv_eq iv)
      · exact exec_push_wraps hs hwrap (exec_pushImm8_eq i8)
    · exact exec_push_wraps hs hwrap (exec_pushf_of hiopl)
    · rw [exec_pushSegs (i, q) hq, perform_allowed (GroupRule.allows_plain _ hs),
        State.pushSeg_of_wraps q (State.pushWraps_of_not_noWrap hwrap)]
      rfl

/-! ### POP and POPF -/

section Pops

variable {s : State} {v : BitVec 32}

theorem State.pop_of_stackItem {z : Size} (h : s.stackItem z 0 = .ok v) :
    s.pop z = .ok (v, s.dropStack (BitVec.ofNat 32 z.bytes)) := by
  rw [State.pop, h]

/-- The destination of POP is written with the stack pointer already moved (R390). -/
theorem State.popRM_of (h : s.stackItem s.opSize 0 = .ok v) (rm : RM) : s.popRM rm =
    (s.dropStack (BitVec.ofNat 32 s.opSize.bytes)).writeRM s.opSize.width rm (v.setWidth _) := by
  rw [State.popRM, State.pop_of_stackItem h]

theorem State.popFlags_of (hiopl : ¬ (s.v86Mode = true ∧ s.flags.iopl < 3))
    (h : s.stackItem s.opSize 0 = .ok v) : s.popFlags =
      .ok { s.dropStack (BitVec.ofNat 32 s.opSize.bytes) with flags := s.flags.loadPopf s.cpl v } := by
  rw [State.popFlags, State.needIopl_of hiopl, State.pop_of_stackItem h]
  rfl

end Pops

/-- Settles O21: each form takes the item from the stack top and writes it from the state whose stack pointer has moved
(`State.popRM_of`, `State.popFlags_of`). -/
theorem popsTakeTheStackTop : Obligations.PopsTakeTheStackTop := by
  refine fun s v hs hitem => ⟨fun r => ?_, fun r => ?_, fun ea hcheck => ?_, fun hiopl => ?_⟩
  · exact (exec_popRv s r).trans (perform_plain hs (State.popRM_of hitem (.reg r)))
  · exact (exec_popRmv s (.reg r)).trans (perform_plain hs (State.popRM_of hitem (.reg r)))
  · obtain ⟨t, ht, hstores, hkept, hflags⟩ := FlagsOnly.refl.writeRM_of_check hcheck (v.setWidth s.opSize.width.bits)
    exact ⟨t, (exec_popRmv s _).trans (perform_plain hs ((State.popRM_of hitem _).trans ht)), hstores, hflags, hkept⟩
  · exact (exec_popf s).trans (perform_plain hs (State.popFlags_of hiopl hitem))

end Sys2Proof.Machine

/-! PROOFS. O22: PUSHA and POPA. The stack pointer and the other registers come first, then the run of POPA, the run of
PUSHA, which is that of a frame of eight items (`EnterAt`), and the stack pointers that leave PUSHA no room. -/

namespace Sys2Proof.Machine

/-! ### The stack pointer and the other registers -/

section StackPointer

variable {s u : State} {z y : Size} {r q : Reg} {v : BitVec 32}

theorem Gpr.eq_of_get {g h : Gpr} (hget : ∀ r, g.get r = h.get r) : g = h := by
  obtain ⟨eax, ecx, edx, ebx, esp, ebp, esi, edi⟩ := g
  rw [Gpr.mk.injEq]
  exact ⟨hget .eax, hget .ecx, hget .edx, hget .ebx, hget .esp, hget .ebp, hget .esi, hget .edi⟩

theorem Gpr.get_write_congr {g h : Gpr} (hget : g.get r = h.get r) (x : BitVec z.width.bits) :
    (g.write z.width r x).get r = (h.write z.width r x).get r := by
  cases z with
  | s16 => simp only [Gpr.write, Gpr.get_set_same, hget]
  | s32 => simp only [Gpr.write, Gpr.get_set_same]

theorem Gpr.write_esp_comm (g : Gpr) (hr : r ≠ .esp) (a : BitVec z.width.bits) (b : BitVec y.width.bits) :
    (g.write z.width r a).write y.width .esp b = (g.write y.width .esp b).write z.width r a := by
  cases r with
  | esp => exact absurd rfl hr
  | eax | ecx | edx | ebx | ebp | esi | edi => cases z <;> cases y <;> rfl

theorem State.get_setEReg_other (h : q ≠ r) : (s.setEReg z r v).gpr.get q = s.gpr.get q :=
  Gpr.get_write_other _ _ (homeReg_size.symm ▸ h)

theorem State.eReg_congr (h : u.gpr.get r = s.gpr.get r) : u.eReg z r = s.eReg z r := by
  rw [State.eReg, State.eReg, State.reg_eq_setWidth, State.reg_eq_setWidth, h]

theorem setWidth_truncSize (v : BitVec 32) : (truncSize z v).setWidth z.width.bits = v.setWidth _ := by
  rw [truncSize_eq, Size.setWidth_setWidth]

theorem State.setEReg_truncSize : s.setEReg z r (truncSize z v) = s.setEReg z r v := by
  rw [State.setEReg, setWidth_truncSize]
  rfl

/-- Cutting to a size before an addition is no different from cutting after it. -/
theorem truncSize_truncSize_add (a b : BitVec 32) : truncSize z (truncSize z a + b) = truncSize z (a + b) := by
  simpa only [BitVec.sub_eq_add_neg, BitVec.neg_neg] using truncSize_truncSize_sub (z := z) a (-b)

theorem State.setEReg_setEReg (v v' : BitVec 32) : (s.setEReg z r v).setEReg z r v' = s.setEReg z r v' :=
  congrArg (fun g => { s with gpr := g }) (Gpr.write_write ..)

theorem State.dropStack_dropStack (a b : BitVec 32) : (s.dropStack a).dropStack b = s.dropStack (a + b) := by
  have hsize : (s.dropStack a).stackSize = s.stackSize := rfl
  have hsp : (s.dropStack a).eReg s.stackSize .esp = truncSize s.stackSize (s.eReg s.stackSize .esp + a) :=
    State.eReg_setEReg _
  rw [State.dropStack, hsize, hsp, ← State.setEReg_truncSize, truncSize_truncSize_add, State.setEReg_truncSize,
    State.dropStack, State.setEReg_setEReg, BitVec.add_assoc, State.dropStack]

theorem State.dropStack_zero : s.dropStack 0#32 = s := by
  rw [State.dropStack, BitVec.add_zero]
  exact congrArg (fun g => { s with gpr := g }) State.setEReg_eReg_gpr

theorem State.dropStack_gpr_congr (hsize : u.stackSize = s.stackSize) (hgpr : u.gpr = s.gpr) (k : BitVec 32) :
    (u.dropStack k).gpr = (s.dropStack k).gpr := by
  rw [State.dropStack, State.dropStack, hsize, State.eReg_congr (congrArg (Gpr.get · .esp) hgpr), State.setEReg_gpr,
    State.setEReg_gpr, hgpr]

/-- The stack pointer moves in the same way before and after a write to another register. -/
theorem State.dropStack_setEReg (hr : r ≠ .esp) (k : BitVec 32) :
    (s.setEReg z r v).dropStack k = (s.dropStack k).setEReg z r v := by
  have hsp : (s.setEReg z r v).eReg s.stackSize .esp = s.eReg s.stackSize .esp :=
    State.eReg_congr (State.get_setEReg_other hr.symm)
  rw [State.dropStack, State.setEReg_stackSize, hsp]
  exact congrArg (fun g => { s with gpr := g }) (Gpr.write_esp_comm _ hr _ _)

theorem State.get_dropStack_other (hr : r ≠ .esp) (k : BitVec 32) : (s.dropStack k).gpr.get r = s.gpr.get r :=
  State.get_setEReg_other hr

theorem State.stackItem_setEReg (hr : r ≠ .esp) (k : Nat) : (s.setEReg y r v).stackItem z k = s.stackItem z k := by
  rw [State.stackItem, State.setEReg_memRead, State.setEReg_stackSize,
    State.eReg_congr (State.get_setEReg_other hr.symm), State.stackItem]

/-- The items seen from a stack pointer that has moved up. -/
theorem State.stackItem_dropStack (j k : Nat) :
    (s.dropStack (BitVec.ofNat 32 j)).stackItem z k = s.stackItem z (j + k) := by
  have hsp : (s.dropStack (BitVec.ofNat 32 j)).eReg s.stackSize .esp =
      truncSize s.stackSize (s.eReg s.stackSize .esp + BitVec.ofNat 32 j) := State.eReg_setEReg _
  have hoff : addOffset s.stackSize (truncSize s.stackSize (s.eReg s.stackSize .esp + BitVec.ofNat 32 j))
      (BitVec.ofNat 32 k) = addOffset s.stackSize (s.eReg s.stackSize .esp) (BitVec.ofNat 32 (j + k)) := by
    rw [addOffset, truncSize_truncSize_add, BitVec.add_assoc, ← BitVec.ofNat_add, addOffset]
  rw [State.stackItem, State.dropStack, State.setEReg_memRead, State.setEReg_stackSize, ← State.dropStack, hsp, hoff,
    State.stackItem]

theorem State.accessOk_of_stackItem {k : Nat} (h : s.stackItem z k = .ok v) : s.accessOk .ss
    (addOffset s.stackSize (s.eReg s.stackSize .esp) (BitVec.ofNat 32 k)) z.bytes false = true := by
  rw [← Size.width_bytes]
  by_contra hacc
  rw [State.stackItem, State.memRead, if_neg hacc] at h
  cases h

theorem Kept.pfx_eq (h : Kept s u) : u.seq.pfx = s.seq.pfx := by
  obtain ⟨-, -, -, -, -, -, hseq⟩ := h
  exact (congrArg Seq.pfx hseq :)

theorem Kept.opSize_eq (h : Kept s u) (hvm : u.flags.vm = s.flags.vm) : u.opSize = s.opSize := by
  have hpfx := h.pfx_eq
  obtain ⟨-, hsegs, -, hctrl, -⟩ := h
  simp only [State.opSize, State.defaultD, State.protectedMode, hsegs, hctrl, hpfx, hvm]

end StackPointer

/-! ### The run of POPA -/

section PopRun

variable {s : State} {z : Size} {r : Reg} {l : List (Option Reg)} {v : Nat → BitVec 32} {j : Nat}

/-- Registers loaded in order, each with its item; no register is named for an item that is thrown away (R391). -/
def State.loadItems (s : State) (z : Size) : List (Option Reg) → (Nat → BitVec 32) → State
  | [], _ => s
  | none :: l, v => s.loadItems z l fun j => v (j + 1)
  | some r :: l, v => (s.setEReg z r (v 0)).loadItems z l fun j => v (j + 1)

/-- A list of pops loads its registers and moves the stack pointer past all the items. -/
theorem State.popList_of (hesp : some .esp ∉ l)
    (hitems : ∀ j < l.length, s.stackItem z (j * z.bytes) = .ok (v j)) : s.popList z l =
      .ok ((s.dropStack (BitVec.ofNat 32 (l.length * z.bytes))).loadItems z l v) := by
  induction l generalizing s v with
  | nil => rw [List.length_nil, Nat.zero_mul, State.dropStack_zero]; rfl
  | cons x l ih =>
    obtain ⟨hx, hl⟩ := not_or.1 (mt List.mem_cons.2 hesp)
    have hpop : s.pop z = .ok (v 0, s.dropStack (BitVec.ofNat 32 z.bytes)) :=
      State.pop_of_stackItem (by simpa using hitems 0 l.length.succ_pos)
    have hrest (j : Nat) (hj : j < l.length) :
        (s.dropStack (BitVec.ofNat 32 z.bytes)).stackItem z (j * z.bytes) = .ok (v (j + 1)) := by
      rw [State.stackItem_dropStack, Nat.add_comm, ← Nat.succ_mul]
      exact hitems (j + 1) (Nat.succ_lt_succ hj)
    have hmove : (s.dropStack (BitVec.ofNat 32 z.bytes)).dropStack (BitVec.ofNat 32 (l.length * z.bytes)) =
        s.dropStack (BitVec.ofNat 32 ((x :: l).length * z.bytes)) := by
      rw [State.dropStack_dropStack, ← BitVec.ofNat_add, List.length_cons, Nat.succ_mul, Nat.add_comm]
    cases x with
    | none =>
      rw [State.popList, hpop]
      exact (ih hl hrest).trans (by rw [hmove]; rfl)
    | some r =>
      have hr : r ≠ .esp := fun h => hx (congrArg some h.symm)
      rw [State.popList, hpop]
      refine (ih hl fun j hj => (State.stackItem_setEReg hr _).trans (hrest j hj)).trans ?_
      rw [State.dropStack_setEReg hr, hmove]
      rfl

/-- A register that is named for no item keeps its value. -/
theorem State.get_loadItems_other (h : some r ∉ l) : (s.loadItems z l v).gpr.get r = s.gpr.get r := by
  induction l generalizing s v with
  | nil => rfl
  | cons x l ih =>
    obtain ⟨hx, hl⟩ := not_or.1 (mt List.mem_cons.2 h)
    cases x with
    | none => exact ih hl
    | some q => exact (ih hl).trans (State.get_setEReg_other fun hq => hx (congrArg some hq))

/-- A register that is named once takes its item. -/
theorem State.get_loadItems (hl : l.Nodup) (hj : l[j]? = some (some r)) :
    (s.loadItems z l v).gpr.get r = (s.gpr.write z.width r ((v j).setWidth _)).get r := by
  induction l generalizing s v j with
  | nil => cases hj
  | cons x l ih =>
    obtain ⟨hx, htail⟩ := List.nodup_cons.1 hl
    cases j with
    | zero =>
      cases hj
      exact State.get_loadItems_other hx
    | succ j =>
      cases x with
      | none => exact ih htail hj
      | some q =>
        have hq : r ≠ q := fun h => hx (h ▸ List.mem_of_getElem? hj)
        exact (ih htail hj).trans (Gpr.get_write_congr (State.get_setEReg_other hq) _)

/-- The registers that POPA loads, in order (R391). -/
def popAllRegs : List (Option Reg) :=
  [some .edi, some .esi, some .ebp, none, some .ebx, some .edx, some .ecx, some .eax]

/-- POPA with eight readable items loads its registers and moves past all eight (R391). -/
theorem State.popAll_of {v : Fin 8 → BitVec 32}
    (hitems : ∀ k, s.stackItem s.opSize (k.val * s.opSize.bytes) = .ok (v k)) : s.popAll =
      .ok ((s.dropStack (BitVec.ofNat 32 (8 * s.opSize.bytes))).loadItems s.opSize popAllRegs
        fun j => v (Fin.ofNat 8 j)) := by
  have hroom : s.popAllRoom = true :=
    List.all_eq_true.2 fun k hk => State.accessOk_of_stackItem (hitems ⟨k, by simp at hk; omega⟩)
  rw [State.popAll, if_pos hroom]
  refine State.popList_of (by decide) fun j hj => ?_
  have hval : (Fin.ofNat 8 j).val = j := Nat.mod_eq_of_lt hj
  simpa only [hval] using hitems (Fin.ofNat 8 j)

theorem State.popAll_spec {v : Fin 8 → BitVec 32}
    (hitems : ∀ k, s.stackItem s.opSize (k.val * s.opSize.bytes) = .ok (v k)) :
    ∃ t, s.popAll = .ok t ∧ t.flags = s.flags ∧ Kept s t ∧ SameMem s t ∧
      (∀ i ∈ [(0, Reg.edi), (1, .esi), (2, .ebp), (4, .ebx), (5, .edx), (6, .ecx), (7, .eax)],
        t.gpr.get i.2 = ((s.gpr.write s.opSize.width i.2 ((v i.1).setWidth _)).get i.2)) ∧
      t.gpr.esp = (s.dropStack (BitVec.ofNat 32 (8 * s.opSize.bytes))).gpr.esp := by
  have hloaded {j : Nat} {r : Reg} (hj : popAllRegs[j]? = some (some r)) (hr : r ≠ .esp) :=
    (State.get_loadItems (s := s.dropStack (BitVec.ofNat 32 (8 * s.opSize.bytes))) (z := s.opSize)
      (v := fun j => v (Fin.ofNat 8 j)) (by decide) hj).trans
      (Gpr.get_write_congr (State.get_dropStack_other hr _) _)
  refine ⟨_, State.popAll_of hitems, rfl, ⟨rfl, rfl, rfl, rfl, rfl, rfl, rfl⟩, ⟨rfl, fun _ => rfl⟩, ?_,
    State.get_loadItems_other (r := .esp) (by decide)⟩
  simp only [List.forall_mem_cons]
  exact ⟨hloaded (j := 0) rfl (by decide), hloaded (j := 1) rfl (by decide), hloaded (j := 2) rfl (by decide),
    hloaded (j := 4) rfl (by decide), hloaded (j := 5) rfl (by decide), hloaded (j := 6) rfl (by decide),
    hloaded (j := 7) rfl (by decide), List.forall_mem_nil _⟩

end PopRun

/-! ### The run of PUSHA -/

section PushRun

variable {s t u : State} {b sp : BitVec 32} {m : Memory} {vs : List (BitVec 32)} {x : BitVec 32} {i j k : Nat}

/-- Memory `m` once the values are pushed, the first of them as item `k` (R394). -/
def State.pushedMem (s : State) : Nat → Memory → List (BitVec 32) → Memory
  | _, m, [] => m
  | k, m, v :: vs => s.pushedMem (k + 1)
      (memSetBytes m (s.enterAddrs k) (leBytes s.opSize.bytes (v.setWidth s.opSize.width.bits).toNat)) vs

/-- Pushes that the stack segment allows, one after another. -/
theorem EnterAt.pushList (h : EnterAt s u b (s.pushOffset (k * s.opSize.bytes)) m) (hpg : s.ctrl.cr0.pg = false)
    (hroom : ∀ j < k + vs.length, s.accessOk .ss (s.enterOffset j) s.opSize.bytes true = true) :
    ∃ t, u.pushList s.opSize vs = .ok t ∧
      EnterAt s t b (s.pushOffset ((k + vs.length) * s.opSize.bytes)) (s.pushedMem k m vs) := by
  induction vs generalizing u k m with
  | nil => exact ⟨u, rfl, h⟩
  | cons v vs ih =>
    rw [List.length_cons, Nat.add_comm vs.length, ← Nat.add_assoc] at hroom ⊢
    obtain ⟨t, ht, hat⟩ := h.push hpg (hroom k (by omega)) v
    obtain ⟨t', ht', hat'⟩ := ih hat hroom
    exact ⟨t', by rw [State.pushList, ht, ← ht'], hat'⟩

/-- An item pushed before stays where it is. -/
theorem State.pushedMem_before (hj : j < k) (hk : k + vs.length ≤ 32) :
    memBytes (s.pushedMem k m vs) (s.enterAddrs j) = memBytes m (s.enterAddrs j) := by
  induction vs generalizing k m with
  | nil => rfl
  | cons v vs ih =>
    rw [List.length_cons] at hk
    refine (ih (by omega) (by omega)).trans (List.map_congr_left fun a ha => memByte_memSetBytes_other _ _ _ ?_)
    exact State.enterAddrs_disjoint (by omega) (by omega) (by omega) ha

theorem State.pushedMem_item (hwf : m.wf = true) (hk : k + vs.length ≤ 32) (hx : vs[j]? = some x) :
    memBytes (s.pushedMem k m vs) (s.enterAddrs (k + j)) =
      leBytes s.opSize.bytes (x.setWidth s.opSize.width.bits).toNat := by
  induction vs generalizing k m j with
  | nil => cases hx
  | cons v vs ih =>
    rw [List.length_cons] at hk
    cases j with
    | zero =>
      cases hx
      have hn : s.opSize.bytes ≤ 2 ^ 32 := by cases s.opSize <;> decide
      exact (State.pushedMem_before (Nat.lt_succ_self k) (by omega)).trans
        (memBytes_memSetBytes_same hwf _ _ (linearAddrs_nodup _ hn) (by simp [State.enterAddrs]))
    | succ j =>
      rw [Nat.add_comm j, ← Nat.add_assoc]
      exact ih (memSetBytes_wf hwf _ _) (by omega) hx

/-- The items of a stack, counted from its top, are those pushed, counted from the last. -/
theorem State.addOffset_pushOffset (n : Nat) :
    addOffset s.stackSize (truncSize s.stackSize (s.pushOffset ((i + j) * n))) (BitVec.ofNat 32 (i * n)) =
      s.pushOffset (j * n) := by
  rw [addOffset, State.pushOffset, truncSize_truncSize, truncSize_truncSize_add, Nat.add_mul, Nat.add_comm,
    BitVec.ofNat_add, ← BitVec.sub_sub, BitVec.sub_add_cancel, State.pushOffset]

theorem EnterAt.stackItem (h : EnterAt s t b (s.pushOffset (vs.length * s.opSize.bytes)) (s.pushedMem 0 s.mem vs))
    (hpg : s.ctrl.cr0.pg = false) (hwf : s.mem.wf = true) (hlen : vs.length ≤ 32) (hij : i + (j + 1) = vs.length)
    (hx : vs[j]? = some x) (hacc : s.accessOk .ss (s.enterOffset j) s.opSize.bytes true = true) :
    t.stackItem s.opSize (i * s.opSize.bytes) = .ok ((x.setWidth s.opSize.width.bits).setWidth 32) := by
  have hoff : addOffset t.stackSize (t.eReg t.stackSize .esp) (BitVec.ofNat 32 (i * s.opSize.bytes)) =
      s.enterOffset j := by
    rw [h.stackSize, h.eReg_esp, ← hij, State.addOffset_pushOffset, State.enterOffset]
  have hbytes := State.pushedMem_item (s := s) (k := 0) hwf (by omega) hx
  rw [Nat.zero_add] at hbytes
  rw [State.stackItem, hoff, h.memRead hpg (State.accessOk_read_of_write hacc), ← State.enterAddrs, hbytes,
    ← Size.width_bytes, ofNat_leNat_leBytes]

/-- After pushes that leave the other registers alone, the stack pointer has moved down by all the items. -/
theorem EnterAt.gpr_eq_dropStack {n : Nat} (h : EnterAt s t (s.eReg s.opSize .ebp) (s.pushOffset n) m) :
    t.gpr = (s.dropStack (0 - BitVec.ofNat 32 n)).gpr := by
  have hbp : (s.setEReg s.opSize .ebp (s.eReg s.opSize .ebp)).gpr = s.gpr := State.setEReg_eReg_gpr
  rw [h.gpr, State.withFrame, State.setEReg_gpr, hbp, State.pushOffset, setWidth_truncSize, State.dropStack,
    State.setEReg_gpr, zero_sub, BitVec.sub_eq_add_neg]

/-- The registers that PUSHA stores, in order (R394). -/
def pushAllRegs : List Reg := [.eax, .ecx, .edx, .ebx, .esp, .ebp, .esi, .edi]

/-- The register that the `k`-th item above the stack top holds after PUSHA. -/
def pushedReg (k : Fin 8) : Reg := pushAllRegs[k.rev]

theorem State.pushAllRoom_iff : s.pushAllRoom = true ↔ ∀ k < 8,
    s.pushWraps s.opSize (k + 1) = false ∧ s.accessOk .ss (s.enterOffset k) s.opSize.bytes true = true := by
  simp only [State.pushAllRoom, List.all_eq_true, Bool.and_eq_true, Bool.not_eq_true']
  constructor
  · exact fun h k hk => h (k + 1) (by simp; omega)
  · intro h k hk
    obtain ⟨j, rfl⟩ : ∃ j, k = j + 1 := Nat.exists_eq_add_of_le' (by simp at hk; omega)
    exact h j (by simp at hk; omega)

/-- PUSHA with paging off and room for its items. -/
theorem State.pushAll_spec (hpg : s.ctrl.cr0.pg = false) (hwf : s.mem.wf = true) (hroom : s.pushAllRoom = true)
    (hsp : (!s.protectedMode && [1, 3, 5].contains (s.reg .w16 .esp)) = false) :
    ∃ t, s.pushAll = .ok t ∧ t.gpr = (s.dropStack (0 - BitVec.ofNat 32 (8 * s.opSize.bytes))).gpr ∧
      t.flags = s.flags ∧ Kept s t ∧ ∀ k : Fin 8, t.stackItem s.opSize (k.val * s.opSize.bytes) =
        .ok ((s.reg s.opSize.width (pushedReg k)).setWidth 32) := by
  have hacc (j : Nat) (hj : j < 8) := (State.pushAllRoom_iff.1 hroom j hj).2
  have hstart : EnterAt s s (s.eReg s.opSize .ebp) (s.pushOffset (0 * s.opSize.bytes)) s.mem := by
    have hsp : s.pushOffset (0 * s.opSize.bytes) = s.eReg s.stackSize .esp := by
      rw [Nat.zero_mul, State.pushOffset, BitVec.sub_zero, truncSize_eReg]
    rw [hsp]
    exact EnterAt.start s s.mem
  have hlen : (pushAllRegs.map s.gpr.get).length = 8 := rfl
  obtain ⟨t, ht, hat⟩ := hstart.pushList (vs := pushAllRegs.map s.gpr.get) hpg (fun j hj => hacc j (by omega))
  rw [Nat.zero_add] at hat
  refine ⟨t, ?_, hat.gpr_eq_dropStack, hat.flags, hat.kept, fun k => ?_⟩
  · rw [State.pushAll, hsp, if_neg Bool.false_ne_true, if_pos hroom, ← ht]
    rfl
  · have hreg : (pushAllRegs.map s.gpr.get)[k.rev.val]? = some (s.gpr.get (pushedReg k)) := by
      rw [List.getElem?_map, List.getElem?_eq_getElem (show k.rev.val < 8 from k.rev.isLt)]
      rfl
    rw [State.reg_eq_setWidth]
    exact hat.stackItem hpg hwf (by omega) (by rw [hlen, Fin.val_rev]; omega) hreg (hacc k.rev k.rev.isLt)

end PushRun

/-! ### PUSHA without room outside Protected Mode -/

section NoRoom

variable {s : State} {z : Size} {k : Nat}

/-- Outside Protected Mode an item straddles the top of the 64K stack by SP alone. -/
theorem State.pushWraps_iff (hp : s.protectedMode = false) : s.pushWraps z k = true ↔
    2 ^ 16 < (truncSize .s16 ((s.reg .w16 .esp).setWidth 32 - BitVec.ofNat 32 (k * z.bytes))).toNat + z.bytes := by
  have hsize : s.stackSize = .s16 := by simp [State.stackSize, hp, sizeOf32]
  rw [State.pushWraps, hp, State.pushOffset, hsize, Bool.not_false, Bool.true_and, decide_eq_true_eq]
  rfl

/-- Below an odd SP under 16 one of the eight items straddles the stack top, at either operand size. -/
theorem State.exists_pushWraps_of_odd (hp : s.protectedMode = false) (hodd : (s.reg .w16 .esp).toNat % 2 = 1)
    (hlt : (s.reg .w16 .esp).toNat < 16) (z : Size) : ∃ k < 8, s.pushWraps z (k + 1) = true := by
  have hpos : 2 ≤ z.bytes := by cases z <;> decide
  refine ⟨(s.reg .w16 .esp).toNat / z.bytes, (Nat.div_lt_iff_lt_mul (by omega)).2 (by omega),
    (State.pushWraps_iff hp).2 ?_⟩
  generalize s.reg .w16 .esp = sp at hodd hlt
  cases z with
  | s16 => simp only [truncSize, Size.bytes]; bv_omega
  | s32 => simp only [truncSize, Size.bytes]; bv_omega

theorem State.pushAllRoom_of_odd (hp : s.protectedMode = false) (hodd : (s.reg .w16 .esp).toNat % 2 = 1)
    (hlt : (s.reg .w16 .esp).toNat < 16) : s.pushAllRoom = false := by
  obtain ⟨k, hk, hwraps⟩ := State.exists_pushWraps_of_odd hp hodd hlt s.opSize
  refine Bool.eq_false_iff.2 fun hroom => ?_
  obtain ⟨hfits, -⟩ := State.pushAllRoom_iff.1 hroom k hk
  rw [hwraps] at hfits
  cases hfits

theorem odd_of_mem_shutdown : ∀ sp ∈ [(1 : BitVec 16), 3, 5], sp.toNat % 2 = 1 ∧ sp.toNat < 16 := by
  simp only [List.forall_mem_cons]
  exact ⟨by decide, by decide, by decide, List.forall_mem_nil _⟩

theorem odd_of_mem_raise : ∀ sp ∈ [(7 : BitVec 16), 9, 11, 13, 15],
    sp.toNat % 2 = 1 ∧ sp.toNat < 16 ∧ [(1 : BitVec 16), 3, 5].contains sp = false := by
  simp only [List.forall_mem_cons]
  exact ⟨by decide, by decide, by decide, by decide, by decide, List.forall_mem_nil _⟩

/-- Where PUSHA has room, SP is none of the values that shut the machine down (R394). -/
theorem State.not_shutdown_of_pushAllRoom (hroom : s.pushAllRoom = true) :
    (!s.protectedMode && [1, 3, 5].contains (s.reg .w16 .esp)) = false := by
  refine Bool.eq_false_iff.2 fun h => ?_
  obtain ⟨hp, hsp⟩ := (Bool.and_eq_true _ _).mp h
  obtain ⟨hodd, hlt⟩ := odd_of_mem_shutdown _ (List.contains_iff_mem.1 hsp)
  rw [State.pushAllRoom_of_odd (by simpa using hp) hodd hlt] at hroom
  cases hroom

theorem State.pushAll_shutdown (hp : s.protectedMode = false) (hsp : s.reg .w16 .esp ∈ [(1 : BitVec 16), 3, 5]) :
    s.pushAll = .error .shutdown := by
  rw [State.pushAll, hp, List.contains_iff_mem.2 hsp]
  rfl

theorem State.pushAll_raise (hp : s.protectedMode = false)
    (hsp : s.reg .w16 .esp ∈ [(7 : BitVec 16), 9, 11, 13, 15]) : s.pushAll = raise (excGP 0) := by
  obtain ⟨hodd, hlt, hshutdown⟩ := odd_of_mem_raise _ hsp
  rw [State.pushAll, hshutdown, State.pushAllRoom_of_odd hp hodd hlt, Bool.and_false, State.accessExc, hp]
  rfl

end NoRoom

/-! ### PUSHA and then POPA -/

section RoundTrip

variable {s t : State}

/-- POPA gives back what PUSHA stored (R394, R391). -/
theorem State.popAll_pushAll (hgpr : t.gpr = (s.dropStack (0 - BitVec.ofNat 32 (8 * s.opSize.bytes))).gpr)
    (hflags : t.flags = s.flags) (hkept : Kept s t)
    (hitems : ∀ k : Fin 8, t.stackItem s.opSize (k.val * s.opSize.bytes) =
      .ok ((s.reg s.opSize.width (pushedReg k)).setWidth 32)) :
    ∃ u, t.popAll = .ok u ∧ u.gpr = s.gpr ∧ u.flags = t.flags ∧ Kept t u ∧ SameMem t u := by
  have hsize : t.opSize = s.opSize := hkept.opSize_eq (congrArg Flags.vm hflags)
  have hstack : t.stackSize = s.stackSize := by
    obtain ⟨-, hsegs, -, hctrl, -⟩ := hkept
    simp only [State.stackSize, State.protectedMode, hsegs, hctrl, hflags]
  rw [← hsize] at hitems hgpr
  obtain ⟨u, hu, huflags, hukept, humem, huregs, husp⟩ := State.popAll_spec hitems
  have hother {r : Reg} (hr : r ≠ .esp) (h : u.gpr.get r = (t.gpr.write t.opSize.width r
      (((s.reg t.opSize.width r).setWidth 32).setWidth _)).get r) : u.gpr.get r = s.gpr.get r := by
    have hget : t.gpr.get r = s.gpr.get r := by rw [hgpr, State.get_dropStack_other hr]
    rw [h, Size.setWidth_setWidth, Gpr.get_write_congr hget, State.reg, Gpr.write_read]
  have hsp : u.gpr.esp = s.gpr.esp := by
    rw [husp, State.dropStack_gpr_congr (s := s.dropStack (0 - BitVec.ofNat 32 (8 * t.opSize.bytes))) hstack hgpr,
      State.dropStack_dropStack, BitVec.sub_add_cancel]
    exact congrArg (fun s : State => s.gpr.esp) State.dropStack_zero
  simp only [List.forall_mem_cons] at huregs
  obtain ⟨hedi, hesi, hebp, hebx, hedx, hecx, heax, -⟩ := huregs
  refine ⟨u, hu, Gpr.eq_of_get fun r => ?_, huflags, hukept, humem⟩
  cases r with
  | esp => exact hsp
  | edi => exact hother (by decide) hedi
  | esi => exact hother (by decide) hesi
  | ebp => exact hother (by decide) hebp
  | ebx => exact hother (by decide) hebx
  | edx => exact hother (by decide) hedx
  | ecx => exact hother (by decide) hecx
  | eax => exact hother (by decide) heax

end RoundTrip

/-- Settles O22: PUSHA with room runs as `State.pushAll_spec` says and POPA undoes it (`State.popAll_pushAll`); POPA alone
is `State.popAll_spec`; an odd SP below 16 leaves no room (`State.pushAll_shutdown`, `State.pushAll_raise`). -/
theorem pushAllAndPopAll : Obligations.PushAllAndPopAll := by
  refine ⟨fun s hs hpg hwf hroom => ?_, fun s v hs hitems => ?_, fun s hs hp => ⟨fun hsp => ?_, fun hsp => ?_⟩⟩
  · obtain ⟨t, ht, hgpr, hflags, hkept, hitems⟩ :=
      State.pushAll_spec hpg hwf hroom (State.not_shutdown_of_pushAllRoom hroom)
    obtain ⟨u, hu, hrestored⟩ := State.popAll_pushAll hgpr hflags hkept hitems
    have hplain : t.plain := by rw [State.plain, hkept.pfx_eq]; exact hs
    refine ⟨t, u, (exec_pusha s).trans (perform_plain hs ht), (exec_popa t).trans (perform_plain hplain hu), hgpr,
      hflags, hkept, ?_, hrestored⟩
    rw [hkept.opSize_eq (congrArg Flags.vm hflags)]
    simp only [List.forall_mem_cons]
    exact ⟨hitems 0, hitems 1, hitems 2, hitems 3, hitems 4, hitems 5, hitems 6, hitems 7, List.forall_mem_nil _⟩
  · obtain ⟨t, ht, hspec⟩ := State.popAll_spec hitems
    exact ⟨t, (exec_popa s).trans (perform_plain hs ht), hspec⟩
  · rw [exec_pusha, execPusha, perform_allowed (GroupRule.allows_plain _ hs), State.pushAll_shutdown hp hsp]
    rfl
  · exact (exec_pusha s).trans (perform_plain_raise hs (State.pushAll_raise hp hsp))

end Sys2Proof.Machine

/-! PROOFS. O28: the repeated string instructions. -/

namespace Sys2Proof.Machine

open Claims (repForms repeForms)

section Repetition

variable {s u : State} {p : GroupPrefix} {compares : Bool} {one : State → Res State}

theorem exec_repForms : ∀ i ∈ repForms s, exec i.1 s = perform .repOnly s fun _ => s.repeated false i.2 := by
  simp only [repForms, List.forall_mem_cons]
  exact ⟨(exec_movsB s).trans (perform_const_body _ s _),
    (exec_movsV s).trans (perform_const_body _ s _),
    (exec_stosB s).trans (perform_const_body _ s _),
    (exec_stosV s).trans (perform_const_body _ s _),
    (exec_lodsB s).trans (perform_const_body _ s _),
    (exec_lodsV s).trans (perform_const_body _ s _),
    (exec_insB s).trans (perform_const_body _ s _),
    (exec_insV s).trans (perform_const_body _ s _),
    (exec_outsB s).trans (perform_const_body _ s _),
    (exec_outsV s).trans (perform_const_body _ s _), List.forall_mem_nil _⟩

theorem exec_repeForms : ∀ i ∈ repeForms s, exec i.1 s = perform .repBoth s fun _ => s.repeated true i.2 := by
  simp only [repeForms, List.forall_mem_cons]
  exact ⟨(exec_cmpsB s).trans (perform_const_body _ s _),
    (exec_cmpsV s).trans (perform_const_body _ s _),
    (exec_scasB s).trans (perform_const_body _ s _),
    (exec_scasV s).trans (perform_const_body _ s _), List.forall_mem_nil _⟩

theorem repOnly_allows (hpfx : s.seq.pfx.group = some .rep) :
    GroupRule.repOnly.allows s.seq.pfx.group = true := by
  rw [hpfx]
  rfl

theorem repBoth_allows (hpfx : s.seq.pfx.group = some p) (hp : p ≠ .lock) :
    GroupRule.repBoth.allows s.seq.pfx.group = true := by
  rw [hpfx]
  cases p with
  | lock => exact absurd rfl hp
  | rep | repne => rfl

theorem State.repeated_of_zero (hpfx : s.seq.pfx.group = some p) (hzero : s.eReg s.addrSize .ecx = 0) :
    s.repeated compares one = .ok s := by
  rw [State.repeated, hpfx]
  exact if_pos hzero

/-- After an element the count is written back, and EIP goes back where the loop goes on (R408). -/
theorem State.repeated_of_ne (hpfx : s.seq.pfx.group = some p) (hne : s.eReg s.addrSize .ecx ≠ 0)
    (hu : one s = .ok u) : s.repeated compares one =
      .ok (if repeatsOn p compares (truncSize s.addrSize (s.eReg s.addrSize .ecx - 1))
          (u.setEReg s.addrSize .ecx (s.eReg s.addrSize .ecx - 1))
        then (u.setEReg s.addrSize .ecx (s.eReg s.addrSize .ecx - 1)).again
        else u.setEReg s.addrSize .ecx (s.eReg s.addrSize .ecx - 1)) := by
  rw [State.repeated, hpfx]
  refine (if_neg hne).trans ?_
  rw [hu]
  rfl

/-- The count that is left is 0 exactly when it was 1. -/
theorem truncSize_count_eq_zero (z : Size) (r : Reg) :
    truncSize z (s.eReg z r - 1) = 0 ↔ s.eReg z r = 1 := by
  rw [← truncSize_eReg (z := z) (s := s)]
  cases z with
  | s16 => simp only [truncSize]; bv_omega
  | s32 => simp only [truncSize]; bv_omega

/-- The instruction is left when the count is used up or, for a comparing one, ZF does not agree with the prefix. -/
theorem repeatsOn_eq_false_iff {count : BitVec 32} : repeatsOn p compares count u = false ↔
    count = 0 ∨ (compares = true ∧ u.flags.zf = (p == .repne)) := by
  cases p <;> cases compares <;> cases h : u.flags.zf <;> simp [repeatsOn, h]

/-- One element is done, the count goes down, and EIP goes back to the first byte unless the instruction is left
(R408). -/
theorem State.repeated_spec (hpfx : s.seq.pfx.group = some p) (hne : s.eReg s.addrSize .ecx ≠ 0)
    (hu : one s = .ok u) : ∃ t, s.repeated compares one = .ok t ∧
      t.gpr = (u.setEReg s.addrSize .ecx (s.eReg s.addrSize .ecx - 1)).gpr ∧ t.mem = u.mem ∧ t.flags = u.flags ∧
      t.io = u.io ∧ t.eip = if s.eReg s.addrSize .ecx = 1 ∨ (compares = true ∧ u.flags.zf = (p == .repne)) then u.eip
        else u.seq.startEip := by
  have hleft := repeatsOn_eq_false_iff (p := p) (compares := compares)
    (u := u.setEReg s.addrSize .ecx (s.eReg s.addrSize .ecx - 1))
    (count := truncSize s.addrSize (s.eReg s.addrSize .ecx - 1))
  rw [truncSize_count_eq_zero] at hleft
  refine ⟨_, State.repeated_of_ne hpfx hne hu, ?_⟩
  by_cases hstop : s.eReg s.addrSize .ecx = 1 ∨ (compares = true ∧ u.flags.zf = (p == .repne))
  · rw [hleft.2 hstop, if_pos hstop]
    exact ⟨rfl, rfl, rfl, rfl, rfl⟩
  · rw [Bool.eq_true_of_not_eq_false (mt hleft.1 hstop), if_neg hstop]
    exact ⟨rfl, rfl, rfl, rfl, rfl⟩

end Repetition

/-- Settles O28: each form repeats its element (`exec_repForms`, `exec_repeForms`); a count of 0 does nothing
(`State.repeated_of_zero`), another runs one element and goes on or ends (`State.repeated_spec`). -/
theorem repeatedStringsCountDownAndStop : Obligations.RepeatedStringsCountDownAndStop := by
  refine fun s p hpfx => ⟨fun i hi hp hzero => ?_, fun i hi hp hne u hu => ?_, fun i hi hp hne u hu => ?_⟩
  · have hrepe {f : State → Res State} (hmem : (i.1, f) ∈ repeForms s) (hlock : p ≠ .lock) : exec i.1 s = .next s :=
      (exec_repeForms _ hmem).trans (perform_of (repBoth_allows hpfx hlock) (State.repeated_of_zero hpfx hzero))
    obtain rfl | ⟨rfl, f, hf⟩ := hp
    · obtain hrep | hmem := List.mem_append.1 hi
      · exact (exec_repForms i hrep).trans (perform_of (repOnly_allows hpfx) (State.repeated_of_zero hpfx hzero))
      · exact hrepe hmem (by decide)
    · exact hrepe hf (by decide)
  · subst hp
    obtain ⟨t, ht, hgpr, hmem, hflags, hio, heip⟩ := State.repeated_spec (compares := false) hpfx hne hu
    exact ⟨t, (exec_repForms i hi).trans (perform_of (repOnly_allows hpfx) ht), hgpr, hmem, hflags, hio,
      by simpa using heip⟩
  · obtain ⟨t, ht, hgpr, hmem, hflags, hio, heip⟩ := State.repeated_spec (compares := true) hpfx hne hu
    exact ⟨t, (exec_repeForms i hi).trans (perform_of (repBoth_allows hpfx hp) ht), hgpr, hmem, hflags, hio,
      by simpa using heip⟩

end Sys2Proof.Machine

/-! PROOFS. O50: outside level 0 no instruction changes the system registers. The operations of the state come first, then
the meanings by the way they run, then every instruction. -/

namespace Sys2Proof.Machine

/-! ### The system registers -/

/-- The registers that level 0 alone may change (R475, R392). CR2, which a page fault loads at every level, is cleared
here. -/
structure SystemRegs where
  tables : Tables
  ctrl : Ctrl
  iopl : BitVec 2

def State.system (s : State) : SystemRegs := ⟨s.tables, { s.ctrl with cr2 := 0 }, s.flags.iopl⟩

/-- The system registers have the given values. Updates of other fields leave it true by definition. -/
def State.HasSystem (p : SystemRegs) (s : State) : Prop := s.system = p

theorem State.hasSystem_self (s : State) : s.HasSystem s.system := rfl

theorem State.HasSystem.spec {s t : State} (h : t.HasSystem s.system) :
    t.tables = s.tables ∧ { t.ctrl with cr2 := s.ctrl.cr2 } = s.ctrl ∧ t.flags.iopl = s.flags.iopl := by
  obtain ⟨htables, hctrl, hiopl⟩ := (SystemRegs.mk.injEq ..).mp h
  exact ⟨htables, congrArg (fun c : Ctrl => { c with cr2 := s.ctrl.cr2 }) hctrl, hiopl⟩

theorem State.HasSystem.iopl_eq {p : SystemRegs} {s t : State} (hs : s.HasSystem p) (ht : t.HasSystem p) :
    s.flags.iopl = t.flags.iopl :=
  congrArg SystemRegs.iopl (hs.trans ht.symm)

theorem State.HasSystem.congr {p : SystemRegs} {s t : State} (h : s.HasSystem p)
    (htables : t.tables = s.tables := by simp) (hctrl : t.ctrl = s.ctrl := by simp)
    (hiopl : t.flags.iopl = s.flags.iopl := by simp) : t.HasSystem p := by
  simpa only [State.HasSystem, State.system, htables, hctrl, hiopl] using h

section SystemOperations

variable {s : State} {p : SystemRegs}

/-! ### Stores and the stack -/

theorem State.linWriteBytes_hasSystem {u : Bool} {lin : BitVec 32} {bs : List Byte} (hs : s.HasSystem p) :
    (s.linWriteBytes u lin bs).Ensures (State.HasSystem p) := by
  intro t ht
  obtain ⟨ps, -, rfl⟩ := State.linWriteBytes_ok ht
  exact hs.congr

theorem State.memWriteBytes_hasSystem {r : SReg} {off : BitVec 32} {bs : List Byte} (hs : s.HasSystem p) :
    (s.memWriteBytes r off bs).Ensures (State.HasSystem p) := by
  unfold State.memWriteBytes
  split
  · exact State.linWriteBytes_hasSystem hs
  · exact .error

theorem State.memWrite_hasSystem {r : SReg} {w : Width} {off : BitVec 32} {v : BitVec w.bits} (hs : s.HasSystem p) :
    (s.memWrite r w off v).Ensures (State.HasSystem p) := by
  intro t ht
  obtain ⟨-, ps, -, rfl⟩ := State.memWrite_ok ht
  exact hs.congr

theorem State.writeRM_hasSystem {w : Width} {rm : RM} {v : BitVec w.bits} (hs : s.HasSystem p) :
    (s.writeRM w rm v).Ensures (State.HasSystem p) := by
  intro t ht
  obtain ⟨-, ⟨-, -, htables, hctrl, -⟩, hflags, -⟩ := State.writeRM_ok ht
  exact hs.congr htables hctrl (congrArg Flags.iopl hflags)

theorem State.updateRM_hasSystem {w : Width} {rm : RM} {f : BitVec w.bits → BitVec w.bits × State}
    (hf : ∀ a, (f a).2.HasSystem p) : (s.updateRM w rm f).Ensures (State.HasSystem p) := by
  unfold State.updateRM
  split
  · exact .error
  · exact State.writeRM_hasSystem (hf _)

theorem State.push_hasSystem {z : Size} {v : BitVec 32} (hs : s.HasSystem p) :
    (s.push z v).Ensures (State.HasSystem p) := by
  intro t ht
  obtain ⟨u, hu, rfl⟩ := State.push_ok ht
  exact State.memWrite_hasSystem hs u hu

theorem State.pushOrShutdown_hasSystem {z : Size} {v : BitVec 32} (hs : s.HasSystem p) :
    (s.pushOrShutdown z v).Ensures (State.HasSystem p) :=
  fun t ht => State.push_hasSystem hs t (State.pushOrShutdown_ok ht)

theorem State.pop_hasSystem {z : Size} (hs : s.HasSystem p) : (s.pop z).Ensures fun vt => vt.2.HasSystem p := by
  rintro ⟨v, t⟩ ht
  obtain ⟨-, rfl⟩ := State.pop_ok ht
  exact hs

theorem State.padWord_hasSystem {z : Size} {sel : BitVec 16} (hs : s.HasSystem p) :
    (s.padWord z sel).2.HasSystem p := by
  cases z <;> exact hs

theorem State.pushWord_hasSystem {z : Size} {sel : BitVec 16} (hs : s.HasSystem p) :
    (s.pushWord z sel).Ensures (State.HasSystem p) :=
  State.push_hasSystem (State.padWord_hasSystem hs)

theorem State.pushCode_hasSystem {z : Size} {e : Event} (hs : s.HasSystem p) :
    (s.pushCode z e).Ensures (State.HasSystem p) := by
  unfold State.pushCode
  split
  · exact .ok hs
  · exact State.pushWord_hasSystem hs

theorem State.pushList_hasSystem {z : Size} (l : List (BitVec 32)) (hs : s.HasSystem p) :
    (s.pushList z l).Ensures (State.HasSystem p) := by
  induction l generalizing s with
  | nil => exact .ok hs
  | cons v l ih =>
    unfold State.pushList
    split
    · exact .error
    · next u hu => exact ih (State.push_hasSystem hs u hu)

theorem State.popList_hasSystem {z : Size} (l : List (Option Reg)) (hs : s.HasSystem p) :
    (s.popList z l).Ensures (State.HasSystem p) := by
  induction l generalizing s with
  | nil => exact .ok hs
  | cons r l ih =>
    unfold State.popList
    split
    · exact .error
    · next v t ht =>
      have hu : t.HasSystem p := State.pop_hasSystem hs (v, t) ht
      split
      · exact ih hu
      · exact ih hu

theorem State.loadSeg_hasSystem {r : SReg} {sel : BitVec 16} (hs : s.HasSystem p) :
    (s.loadSeg r sel).Ensures (State.HasSystem p) := by
  intro t ht
  obtain ⟨g, -, rfl⟩ := State.loadSeg_ok ht
  exact hs

theorem State.inhibitAfterSs_hasSystem {r : SReg} (hs : s.HasSystem p) : (s.inhibitAfterSs r).HasSystem p := by
  unfold State.inhibitAfterSs
  split <;> exact hs

/-! ### Taking an event: a handler starts with the IOPL of the program (R294) -/

theorem State.enterReal_hasSystem {e : Event} (hs : s.HasSystem p) :
    (s.enterReal e).Ensures (State.HasSystem p) :=
  .after fun _ => (State.push_hasSystem hs).bind fun _ ha => (State.push_hasSystem ha).bind fun _ hb =>
    (State.push_hasSystem hb).bind fun _ hc => .after fun _ => .after fun _ => .after fun _ =>
    .ok (hc.congr rfl rfl (hs.iopl_eq hc))

theorem State.enterInner_hasSystem {e : Event} {g : Desc} {cs : SegReg} (hs : s.HasSystem p) :
    (s.enterInner e g cs).Ensures (State.HasSystem p) := by
  refine .after fun _ => .after fun _ => .after fun _ => .after fun _ => .bind (State.pushWord_hasSystem (p := p) hs)
    fun _ hb => ?_
  exact (State.push_hasSystem hb).bind fun _ hc => (State.push_hasSystem hc).bind fun _ hd =>
    (State.pushWord_hasSystem hd).bind fun _ hf => (State.push_hasSystem hf).bind fun _ hh =>
    (State.pushCode_hasSystem hh).bind fun _ hi => .ok (hi.congr rfl rfl (hs.iopl_eq hi))

theorem State.enterSame_hasSystem {e : Event} {g : Desc} {cs : SegReg} (hs : s.HasSystem p) :
    (s.enterSame e g cs).Ensures (State.HasSystem p) :=
  .after fun _ => .after fun _ => (State.push_hasSystem hs).bind fun _ ha =>
    (State.pushWord_hasSystem ha).bind fun _ hb => (State.push_hasSystem hb).bind fun _ hc =>
    (State.pushCode_hasSystem hc).bind fun _ hd => .ok (hd.congr rfl rfl (hs.iopl_eq hd))

theorem State.enterFromV86_hasSystem {e : Event} {g : Desc} {cs : SegReg} (hs : s.HasSystem p) :
    (s.enterFromV86 e g cs).Ensures (State.HasSystem p) := by
  unfold State.enterFromV86
  split
  · exact .error
  · refine .after fun _ => .after fun _ => .after fun _ => .after fun _ => .bind (State.pushWord_hasSystem (p := p) hs)
      fun _ hb => ?_
    exact (State.pushWord_hasSystem hb).bind fun _ hc => (State.pushWord_hasSystem hc).bind fun _ hd =>
      (State.pushWord_hasSystem hd).bind fun _ hf => (State.pushWord_hasSystem hf).bind fun _ hh =>
      (State.push_hasSystem hh).bind fun _ hi => (State.push_hasSystem hi).bind fun _ hj =>
      (State.pushWord_hasSystem hj).bind fun _ hk => (State.push_hasSystem hk).bind fun _ hl =>
      (State.pushCode_hasSystem hl).bind fun _ hm => .ok hm

theorem State.enterGate_hasSystem {e : Event} {g : Desc} (hs : s.HasSystem p) :
    (s.enterGate e g).Ensures (State.HasSystem p) := by
  refine .after fun _ => .after fun _ => .after fun _ => .after fun _ => ?_
  split
  · split
    · exact .after fun _ => State.enterFromV86_hasSystem hs
    · exact State.enterInner_hasSystem hs
  · exact .after fun _ => .after fun _ => State.enterSame_hasSystem hs

theorem State.enterProtected_hasSystem {e : Event} (hs : s.HasSystem p) :
    (s.enterProtected e).Ensures (State.HasSystem p) := by
  refine .after fun _ => .after fun _ => .after fun _ => .after fun _ => .after fun _ => ?_
  split
  · exact .after fun _ => .error
  · exact State.enterGate_hasSystem hs

theorem State.enter_hasSystem {e : Event} (hs : s.HasSystem p) : (s.enter e).Ensures (State.HasSystem p) := by
  unfold State.enter
  split
  · exact State.enterReal_hasSystem hs
  · exact State.enterProtected_hasSystem hs

/-- A page fault loads CR2 (R101), the one control register that every level may change. -/
theorem State.loadCr2_hasSystem {x : Exc} (hs : s.HasSystem p) : (s.loadCr2 x).HasSystem p := by
  unfold State.loadCr2
  split <;> exact hs

theorem State.deliver_hasSystem {n : Nat} {e : Event} (hs : s.HasSystem p) :
    (s.deliver n e).Ensures (State.HasSystem p) := fun _ ht =>
  State.deliver_induct (State.HasSystem p) (fun _ hu => hu) (fun _ _ hu => State.loadCr2_hasSystem hu)
    (fun _ _ v hu hv => State.enter_hasSystem hu v hv) n hs ht

theorem perform_hasSystem {rule : GroupRule} {body : State → Res State} (hs : s.HasSystem p)
    (hb : (body s).Ensures (State.HasSystem p)) : (perform rule s body).Ensures (State.HasSystem p) := by
  intro t ht
  obtain ⟨-, ht⟩ | rfl | ⟨x, hx⟩ := perform_next ht
  · exact hb t ht
  · exact hs
  · exact State.deliver_hasSystem (s := s.restart.loadCr2 x) (State.loadCr2_hasSystem (s := s.restart) hs) t hx

end SystemOperations

section OuterLevels

variable {s : State} {p : SystemRegs} {rm : RM}

/-! ### What needs level 0 answers at no other level -/

theorem State.needCpl0_of_ne (h : s.cpl ≠ 0) : s.needCpl0 = raise (excGP 0) :=
  if_neg (by simpa using h)

theorem State.needCpl0_ensures : s.needCpl0.Ensures fun _ => s.cpl = 0 :=
  fun _ hu => by simpa using need_ok.1 hu

theorem State.systemOperand_ensures : (s.systemOperand rm).Ensures fun _ => s.cpl = 0 :=
  .after fun _ => State.needCpl0_ensures.bind fun _ h => fun _ _ => h

theorem State.loadTable_ensures : (s.loadTable rm).Ensures fun _ => s.cpl = 0 :=
  .after fun _ => State.needCpl0_ensures.bind fun _ h => .after fun _ => .ok h

theorem State.loadGdt_ensures : (s.loadGdt rm).Ensures fun _ => s.cpl = 0 := by
  unfold State.loadGdt
  split
  · exact .error
  · next t ht => exact .ok (State.loadTable_ensures t ht)

theorem State.loadIdt_ensures : (s.loadIdt rm).Ensures fun _ => s.cpl = 0 := by
  unfold State.loadIdt
  split
  · exact .error
  · next t ht => exact .ok (State.loadTable_ensures t ht)

theorem State.loadLdt_ensures : (s.loadLdt rm).Ensures fun _ => s.cpl = 0 :=
  State.systemOperand_ensures.bind fun _ h => fun _ _ => h

theorem State.loadTr_ensures : (s.loadTr rm).Ensures fun _ => s.cpl = 0 :=
  State.systemOperand_ensures.bind fun _ h => fun _ _ => h

theorem State.loadMsw_ensures : (s.loadMsw rm).Ensures fun _ => s.cpl = 0 :=
  State.needCpl0_ensures.bind fun _ h => fun _ _ => h

theorem State.moveFromSpecial_ensures {r : Reg} {v : Option (BitVec 32)} :
    (s.moveFromSpecial r v).Ensures fun _ => s.cpl = 0 := by
  unfold State.moveFromSpecial
  split
  · exact .error
  split
  · exact .error
  · next u hu => exact .ok (State.needCpl0_ensures u hu)

theorem State.moveToSpecial_ensures {t : Option State} : (s.moveToSpecial t).Ensures fun _ => s.cpl = 0 := by
  unfold State.moveToSpecial
  split
  · exact .error
  split
  · exact .error
  · next u hu => exact .ok (State.needCpl0_ensures u hu)

/-- An instruction that answers at level 0 alone ends in an exception at every other level. -/
theorem perform_hasSystem_of_level0 {rule : GroupRule} {body : State → Res State} (hcpl : s.cpl ≠ 0)
    (hs : s.HasSystem p) (hb : (body s).Ensures fun _ => s.cpl = 0) :
    (perform rule s body).Ensures (State.HasSystem p) :=
  perform_hasSystem hs (hb.mono fun _ h => absurd h hcpl)

/-! ### IRET and POPF load IOPL at level 0 alone (R298, R392) -/

theorem Flags.loadPopf_iopl {f : Flags} {cpl : BitVec 2} {v : BitVec 32} (h : cpl ≠ 0) :
    (f.loadPopf cpl v).iopl = f.iopl := if_neg h

theorem Flags.loadIret_iopl {f : Flags} {cpl : BitVec 2} {z : Size} {v : BitVec 32} (h : cpl ≠ 0) :
    (f.loadIret cpl z v).iopl = f.iopl := by
  cases z <;> exact Flags.loadPopf_iopl h

theorem State.iretReal_hasSystem (hcpl : s.cpl ≠ 0) (hs : s.HasSystem p) :
    s.iretReal.Ensures (State.HasSystem p) :=
  .after fun _ => .after fun _ => .after fun _ => .ok (hs.congr rfl rfl (Flags.loadIret_iopl hcpl))

theorem State.iretSame_hasSystem {sel : BitVec 16} (hcpl : s.cpl ≠ 0) (hs : s.HasSystem p) :
    (s.iretSame sel).Ensures (State.HasSystem p) :=
  .after fun _ => .after fun _ => .after fun _ => .after fun _ => .after fun _ =>
    .ok (hs.congr rfl rfl (Flags.loadIret_iopl hcpl))

theorem State.iretOuter_hasSystem {sel : BitVec 16} (hcpl : s.cpl ≠ 0) (hs : s.HasSystem p) :
    (s.iretOuter sel).Ensures (State.HasSystem p) :=
  .after fun _ => .after fun _ => .after fun _ => .after fun _ => .after fun _ => .after fun _ => .after fun _ =>
    .after fun _ => .ok (hs.congr rfl rfl (Flags.loadIret_iopl hcpl))

theorem State.iretStack_hasSystem (hcpl : s.cpl ≠ 0) (hs : s.HasSystem p) :
    s.iretStack.Ensures (State.HasSystem p) := by
  refine .after fun _ => .after fun _ => ?_
  split
  · exact State.iretSame_hasSystem hcpl hs
  · exact State.iretOuter_hasSystem hcpl hs

/-- IRET returns to V86 mode from level 0 alone (R298). -/
theorem State.iretSeesVm_ensures : s.iretSeesVm.Ensures fun v => v = true → s.cpl = 0 := by
  unfold State.iretSeesVm
  split
  · next h =>
    simp only [Bool.and_eq_true, beq_iff_eq] at h
    exact fun _ _ _ => h.1.2
  · exact .ok nofun

theorem State.iret_hasSystem (hcpl : s.cpl ≠ 0) (hs : s.HasSystem p) : s.iret.Ensures (State.HasSystem p) := by
  unfold State.iret
  split
  · exact State.iretReal_hasSystem hcpl hs
  split
  · exact .error
  split
  · exact State.iretTask_ensures
  refine State.iretSeesVm_ensures.bind fun v hv => ?_
  split
  · next h => exact absurd (hv h) hcpl
  · exact State.iretStack_hasSystem hcpl hs

theorem State.popFlags_hasSystem (hcpl : s.cpl ≠ 0) (hs : s.HasSystem p) :
    s.popFlags.Ensures (State.HasSystem p) := by
  unfold State.popFlags
  split
  · exact .error
  split
  · exact .error
  · next v t ht => exact .ok (State.HasSystem.congr (State.pop_hasSystem hs (v, t) ht) rfl rfl (Flags.loadPopf_iopl hcpl))

end OuterLevels

section SystemMeanings

variable {s : State} {p : SystemRegs} {rm : RM} {w : Width}

/-! ### Flags -/

theorem State.aluFlags_hasSystem {n : Nat} {op : AluOp} {a b : BitVec n} (hs : s.HasSystem p) :
    (s.aluFlags op a b).HasSystem p := by
  cases op <;> exact hs

theorem State.shiftFlags_hasSystem {n k : Nat} {op : ShiftOp} {a r : BitVec n} {c : Bool} (hs : s.HasSystem p) :
    (s.shiftFlags op k a r c).HasSystem p :=
  have ⟨_, _, _, hiopl, _⟩ := s.shiftFlags_sameControl op k a r c
  hs.congr (hiopl := hiopl)

theorem State.setProduct_hasSystem {n : Nat} (hs : s.HasSystem p) : (s.setProduct w n).HasSystem p := hs.congr

theorem State.setQuotRem_hasSystem {q r : BitVec w.bits} (hs : s.HasSystem p) : (s.setQuotRem w q r).HasSystem p :=
  hs.congr

/-! ### Operands in memory -/

theorem State.shiftRM_hasSystem {op : ShiftOp} {n : Nat} (hs : s.HasSystem p) :
    (s.shiftRM op w rm n).Ensures (State.HasSystem p) := by
  unfold State.shiftRM
  split
  · split
    · exact .error
    · exact .ok hs
  · exact State.updateRM_hasSystem fun _ => State.shiftFlags_hasSystem hs

theorem State.doubleShift_hasSystem {left : Bool} {r : Reg} {k : Nat} (hs : s.HasSystem p) :
    (s.doubleShift left w rm r k).Ensures (State.HasSystem p) := by
  unfold State.doubleShift
  split
  · split
    · exact .error
    · exact .ok hs
  split
  · exact State.updateRM_hasSystem fun _ => hs
  split
  · exact State.updateRM_hasSystem fun _ => hs
  · exact State.updateRM_hasSystem fun _ => hs

theorem State.bitMem_hasSystem {op : BitOp} {r : SReg} {off : BitVec 32} {k : Nat} (hs : s.HasSystem p) :
    (s.bitMem op w r off k).Ensures (State.HasSystem p) := by
  unfold State.bitMem
  split
  · split
    · exact .error
    · exact .ok hs
  split
  · exact .error
  split
  · exact .error
  · exact State.memWrite_hasSystem hs

theorem State.bitImm_hasSystem {op : BitOp} {imm : BitVec 8} (hs : s.HasSystem p) :
    (s.bitImm op rm imm).Ensures (State.HasSystem p) := by
  cases rm with
  | reg r => exact .ok hs
  | mem ea => exact State.bitMem_hasSystem hs

theorem State.bitOffset_hasSystem {op : BitOp} {r : Reg} (hs : s.HasSystem p) :
    (s.bitOffset op rm r).Ensures (State.HasSystem p) := by
  cases rm with
  | reg q => exact .ok hs
  | mem ea => exact State.bitMem_hasSystem hs

theorem State.xchgRM_hasSystem {r : Reg} (hs : s.HasSystem p) : (s.xchgRM w rm r).Ensures (State.HasSystem p) := by
  unfold State.xchgRM
  split
  · exact .error
  split
  · exact .error
  · next t ht => exact .ok (State.writeRM_hasSystem hs t ht)

theorem State.storeWordFree_hasSystem {v : BitVec 16} (hs : s.HasSystem p) :
    (s.storeWordFree rm v).Ensures (State.HasSystem p) := by
  unfold State.storeWordFree
  split
  · split
    · exact .ok hs
    · exact .ok hs
  · exact State.writeRM_hasSystem hs

/-! ### Segment registers -/

theorem State.movToSeg_hasSystem {code : BitVec 3} (hs : s.HasSystem p) :
    (s.movToSeg code rm).Ensures (State.HasSystem p) := by
  unfold State.movToSeg
  split
  · exact .error
  · exact .error
  split
  · exact .error
  split
  · exact .error
  · next t ht => exact .ok (State.inhibitAfterSs_hasSystem (State.loadSeg_hasSystem hs t ht))

theorem State.movFromSeg_hasSystem {code : BitVec 3} (hs : s.HasSystem p) :
    (s.movFromSeg code rm).Ensures (State.HasSystem p) := by
  unfold State.movFromSeg
  split
  · exact .error
  · exact State.storeWordFree_hasSystem hs

theorem State.loadFar_hasSystem {sr : SReg} {r : Reg} (hs : s.HasSystem p) :
    (s.loadFar sr r rm).Ensures (State.HasSystem p) := by
  unfold State.loadFar
  split
  · exact .error
  split
  · exact .error
  split
  · exact .error
  · next t ht => exact .ok (State.loadSeg_hasSystem hs t ht)

/-! ### The stack -/

theorem State.pushRM_hasSystem (hs : s.HasSystem p) : (s.pushRM rm).Ensures (State.HasSystem p) := by
  unfold State.pushRM
  split
  · exact .error
  · exact State.pushOrShutdown_hasSystem hs

theorem State.pushFlags_hasSystem (hs : s.HasSystem p) : s.pushFlags.Ensures (State.HasSystem p) := by
  unfold State.pushFlags
  split
  · exact .error
  · exact State.pushOrShutdown_hasSystem hs

theorem State.popRM_hasSystem (hs : s.HasSystem p) : (s.popRM rm).Ensures (State.HasSystem p) := by
  unfold State.popRM
  split
  · exact .error
  · next v t ht => exact State.writeRM_hasSystem (State.pop_hasSystem hs (v, t) ht)

theorem State.popSeg_hasSystem {r : SReg} (hs : s.HasSystem p) : (s.popSeg r).Ensures (State.HasSystem p) := by
  unfold State.popSeg
  split
  · exact .error
  · next v t ht =>
    split
    · exact .error
    · next u hu =>
      exact .ok (State.inhibitAfterSs_hasSystem (State.loadSeg_hasSystem (State.pop_hasSystem hs (v, t) ht) u hu))

theorem State.pushAll_hasSystem (hs : s.HasSystem p) : s.pushAll.Ensures (State.HasSystem p) := by
  unfold State.pushAll
  split
  · exact .error
  split
  · exact State.pushList_hasSystem _ hs
  · exact .error

theorem State.popAll_hasSystem (hs : s.HasSystem p) : s.popAll.Ensures (State.HasSystem p) := by
  unfold State.popAll
  split
  · exact State.popList_hasSystem _ hs
  · exact .error

theorem State.enterCopy_hasSystem {z : Size} (n : Nat) (hs : s.HasSystem p) :
    (State.enterCopy z n s).Ensures (State.HasSystem p) := by
  induction n generalizing s with
  | zero => exact .ok hs
  | succ n ih =>
    unfold State.enterCopy
    dsimp only
    split
    · exact .error
    split
    · exact .error
    · next u hu => exact ih (State.push_hasSystem (s := s.setEReg z .ebp _) hs u hu)

theorem State.enterDisplay_hasSystem {z : Size} {frame : BitVec 32} {level : Nat} (hs : s.HasSystem p) :
    (s.enterDisplay z frame level).Ensures (State.HasSystem p) := by
  unfold State.enterDisplay
  split
  · exact .ok hs
  split
  · exact .error
  · next t ht => exact State.push_hasSystem (State.enterCopy_hasSystem _ hs t ht)

theorem State.enterFrame_hasSystem {n : BitVec 16} {level : BitVec 8} (hs : s.HasSystem p) :
    (s.enterFrame n level).Ensures (State.HasSystem p) := by
  unfold State.enterFrame State.enterPush
  split
  · exact .error
  split
  · exact .error
  · next t ht =>
    split
    · exact .error
    · next u hu =>
      have hu : u.HasSystem p := State.enterDisplay_hasSystem (State.push_hasSystem hs t ht) u hu
      exact .ok hu

theorem State.leaveFrame_hasSystem (hs : s.HasSystem p) : s.leaveFrame.Ensures (State.HasSystem p) := by
  unfold State.leaveFrame
  split
  · exact .error
  · next v t ht => exact .ok (State.pop_hasSystem (s := s.setEReg s.stackSize .esp _) hs (v, t) ht)

/-! ### Control transfers -/

theorem State.jumpNear_hasSystem {eip : BitVec 32} (hs : s.HasSystem p) :
    (s.jumpNear eip).Ensures (State.HasSystem p) := by
  unfold State.jumpNear
  split
  · exact .error
  · exact .ok hs

theorem State.jumpIf_hasSystem {c : Bool} {d : BitVec 32} (hs : s.HasSystem p) :
    (s.jumpIf c d).Ensures (State.HasSystem p) := by
  unfold State.jumpIf
  split
  · exact State.jumpNear_hasSystem hs
  · exact .ok hs

theorem State.callNear_hasSystem {eip : BitVec 32} (hs : s.HasSystem p) :
    (s.callNear eip).Ensures (State.HasSystem p) := by
  unfold State.callNear
  split
  · exact .error
  split
  · exact .error
  · next t ht => exact .ok (State.push_hasSystem hs t ht)

theorem State.retNear_hasSystem {imm : BitVec 16} (hs : s.HasSystem p) :
    (s.retNear imm).Ensures (State.HasSystem p) := by
  unfold State.retNear
  split
  · exact .error
  · next ip t ht =>
    split
    · exact .error
    · exact .ok (State.pop_hasSystem hs (ip, t) ht)

theorem State.jumpGate_hasSystem {sel : BitVec 16} {g : Desc} (hs : s.HasSystem p) :
    (s.jumpGate sel g).Ensures (State.HasSystem p) :=
  .after fun _ => .after fun _ => .after fun _ => .after fun _ => .after fun _ => .ok hs

theorem State.farJump_hasSystem {off : BitVec 32} {sel : BitVec 16} (hs : s.HasSystem p) :
    (s.farJump off sel).Ensures (State.HasSystem p) := by
  unfold State.farJump
  split
  · refine .after fun d => ?_
    split
    · exact .after fun _ => .after fun _ => .ok hs
    split
    · exact State.jumpGate_hasSystem hs
    split
    · exact State.farTask_ensures
    · exact .error
  · exact .ok hs

theorem State.pushReturn_hasSystem {z : Size} {cs : BitVec 16} {eip : BitVec 32} (hs : s.HasSystem p) :
    (s.pushReturn z cs eip).Ensures (State.HasSystem p) := by
  unfold State.pushReturn
  split
  · exact .error
  · next t ht => exact State.push_hasSystem (State.pushWord_hasSystem hs t ht)

theorem State.callCode_hasSystem {z : Size} {cs : SegReg} {off : BitVec 32} (hs : s.HasSystem p) :
    (s.callCode z cs off).Ensures (State.HasSystem p) :=
  .after fun _ => .after fun _ => (State.pushReturn_hasSystem hs).bind fun _ ht => .ok ht

theorem State.copyParams_hasSystem {old : State} {z : Size} (n : Nat) (hs : s.HasSystem p) :
    (old.copyParams z n s).Ensures (State.HasSystem p) := by
  induction n generalizing s with
  | zero => exact .ok hs
  | succ n ih =>
    unfold State.copyParams
    split
    · exact .error
    split
    · exact .error
    · next u hu => exact ih (State.push_hasSystem hs u hu)

theorem State.callInner_hasSystem {g : Desc} {cs : SegReg} (hs : s.HasSystem p) :
    (s.callInner g cs).Ensures (State.HasSystem p) := by
  refine .after fun _ => .after fun _ => .after fun _ => .after fun _ => .bind (State.pushWord_hasSystem (p := p) hs)
    fun _ hb => ?_
  exact (State.push_hasSystem hb).bind fun _ hc => (State.copyParams_hasSystem _ hc).bind fun _ hd =>
    (State.pushReturn_hasSystem hd).bind fun _ hf => .ok hf

theorem State.callGate_hasSystem {sel : BitVec 16} {g : Desc} (hs : s.HasSystem p) :
    (s.callGate sel g).Ensures (State.HasSystem p) := by
  refine .after fun _ => .after fun _ => .after fun _ => .after fun _ => ?_
  split
  · exact State.callInner_hasSystem hs
  · exact State.callCode_hasSystem hs

theorem State.farCall_hasSystem {off : BitVec 32} {sel : BitVec 16} (hs : s.HasSystem p) :
    (s.farCall off sel).Ensures (State.HasSystem p) := by
  unfold State.farCall
  split
  · refine .after fun d => ?_
    split
    · exact .after fun _ => State.callCode_hasSystem hs
    split
    · exact State.callGate_hasSystem hs
    split
    · exact State.farTask_ensures
    · exact .error
  · exact .after fun _ => (State.pushReturn_hasSystem hs).bind fun _ ht => .ok ht

theorem State.retFar_hasSystem {imm : BitVec 16} (hs : s.HasSystem p) :
    (s.retFar imm).Ensures (State.HasSystem p) := by
  unfold State.retFar
  split
  · refine .after fun _ => .after fun _ => ?_
    split
    · exact .after fun _ => .after fun _ => .after fun _ => .ok hs
    · exact .after fun _ => .after fun _ => .after fun _ => .after fun _ => .after fun _ => .after fun _ =>
        .after fun _ => .ok hs
  · exact .after fun _ => .after fun _ => .ok hs

/-! ### Ports and strings -/

theorem State.portIn_hasSystem {port : BitVec 16} (hs : s.HasSystem p) :
    (s.portIn port w).Ensures fun vt => vt.2.HasSystem p := by
  unfold State.portIn
  split
  · exact .error
  · exact .ok hs

theorem State.portOut_hasSystem {port : BitVec 16} {v : BitVec w.bits} (hs : s.HasSystem p) :
    (s.portOut port w v).Ensures (State.HasSystem p) := by
  unfold State.portOut
  split
  · exact .error
  · exact .ok hs

theorem State.inPort_hasSystem {port : BitVec 16} (hs : s.HasSystem p) :
    (s.inPort w port).Ensures (State.HasSystem p) := by
  unfold State.inPort
  split
  · exact .error
  split
  · exact .error
  · next v t ht => exact .ok (State.portIn_hasSystem hs (v, t) ht)

theorem State.outPort_hasSystem {port : BitVec 16} (hs : s.HasSystem p) :
    (s.outPort w port).Ensures (State.HasSystem p) := by
  unfold State.outPort
  split
  · exact .error
  · exact State.portOut_hasSystem hs

theorem State.movsOne_hasSystem (hs : s.HasSystem p) : (s.movsOne w).Ensures (State.HasSystem p) := by
  unfold State.movsOne
  split
  · exact .error
  split
  · exact .error
  · next t ht => exact .ok (State.memWrite_hasSystem hs t ht)

theorem State.cmpsOne_hasSystem (hs : s.HasSystem p) : (s.cmpsOne w).Ensures (State.HasSystem p) := by
  unfold State.cmpsOne
  split
  · exact .error
  split
  · exact .error
  · exact .ok hs

theorem State.scasOne_hasSystem (hs : s.HasSystem p) : (s.scasOne w).Ensures (State.HasSystem p) := by
  unfold State.scasOne
  split
  · exact .error
  · exact .ok hs

theorem State.lodsOne_hasSystem (hs : s.HasSystem p) : (s.lodsOne w).Ensures (State.HasSystem p) := by
  unfold State.lodsOne
  split
  · exact .error
  · exact .ok hs

theorem State.stosOne_hasSystem (hs : s.HasSystem p) : (s.stosOne w).Ensures (State.HasSystem p) := by
  unfold State.stosOne
  split
  · exact .error
  · next t ht => exact .ok (State.memWrite_hasSystem hs t ht)

theorem State.insOne_hasSystem (hs : s.HasSystem p) : (s.insOne w).Ensures (State.HasSystem p) := by
  unfold State.insOne
  split
  · exact .error
  split
  · exact .error
  split
  · exact .error
  · next v t ht =>
    split
    · exact .error
    · next u hu => exact .ok (State.memWrite_hasSystem (State.portIn_hasSystem hs (v, t) ht) u hu)

theorem State.outsOne_hasSystem (hs : s.HasSystem p) : (s.outsOne w).Ensures (State.HasSystem p) := by
  unfold State.outsOne
  split
  · exact .error
  split
  · exact .error
  split
  · exact .error
  · next t ht => exact .ok (State.portOut_hasSystem hs t ht)

theorem State.repeated_hasSystem {compares : Bool} {one : State → Res State} (hs : s.HasSystem p)
    (hone : (one s).Ensures (State.HasSystem p)) : (s.repeated compares one).Ensures (State.HasSystem p) := by
  unfold State.repeated
  split
  · exact hone
  split
  · exact .ok hs
  split
  · exact .error
  · next t ht =>
    have ht : t.HasSystem p := hone t ht
    refine .ok ?_
    split <;> exact ht

/-! ### Protection -/

theorem State.adjustRpl_hasSystem {src : BitVec 16} (hs : s.HasSystem p) :
    (s.adjustRpl rm src).Ensures (State.HasSystem p) := by
  unfold State.adjustRpl
  split
  · exact .error
  split
  · exact .error
  split
  · exact State.writeRM_hasSystem (s := s.withZf true) hs
  · exact .ok hs

theorem State.storeSystem_hasSystem {sel : BitVec 16} (hs : s.HasSystem p) :
    (s.storeSystem rm sel).Ensures (State.HasSystem p) := by
  unfold State.storeSystem
  split
  · exact .error
  · exact State.writeRM_hasSystem hs

theorem State.storeTable_hasSystem {t : TableReg} (hs : s.HasSystem p) :
    (s.storeTable rm t).Ensures (State.HasSystem p) := by
  unfold State.storeTable
  split
  · exact .error
  · exact State.memWriteBytes_hasSystem hs

/-! ### Every instruction -/

/-- No instruction changes the system registers outside level 0. The instructions that share an operation share a case. -/
theorem exec_hasSystem (i : Instr) (hcpl : s.cpl ≠ 0) (hs : s.HasSystem p) :
    Out.Ensures (exec i s) (State.HasSystem p) := by
  unfold exec
  cases i with
  -- arithmetic and logic
  | addRm8R8 | addRmvRv | addRm8Imm8 | addRmvImmv | addRmvImm8 | orRm8R8 | orRmvRv | orRm8Imm8 | orRmvImmv | orRmvImm8
  | adcRm8R8 | adcRmvRv | adcRm8Imm8 | adcRmvImmv | adcRmvImm8 | sbbRm8R8 | sbbRmvRv | sbbRm8Imm8 | sbbRmvImmv
  | sbbRmvImm8 | andRm8R8 | andRmvRv | andRm8Imm8 | andRmvImmv | andRmvImm8 | subRm8R8 | subRmvRv | subRm8Imm8
  | subRmvImmv | subRmvImm8 | xorRm8R8 | xorRmvRv | xorRm8Imm8 | xorRmvImmv | xorRmvImm8 =>
    exact perform_hasSystem hs (State.updateRM_hasSystem fun _ => State.aluFlags_hasSystem hs)
  | incRv | incRm8 | incRmv | decRv | decRm8 | decRmv | negRm8 | negRmv | notRm8 | notRmv =>
    exact perform_hasSystem hs (State.updateRM_hasSystem fun _ => hs)
  | addAlImm8 | addEaxImmv | orAlImm8 | orEaxImmv | adcAlImm8 | adcEaxImmv | sbbAlImm8 | sbbEaxImmv | andAlImm8
  | andEaxImmv | subAlImm8 | subEaxImmv | xorAlImm8 | xorEaxImmv | cmpAlImm8 | cmpEaxImmv | testAlImm8 | testEaxImmv =>
    exact perform_hasSystem hs (.ok hs)
  -- an operand read, then registers and flags
  | addR8Rm8 | addRvRmv | orR8Rm8 | orRvRmv | adcR8Rm8 | adcRvRmv | sbbR8Rm8 | sbbRvRmv | andR8Rm8 | andRvRmv
  | subR8Rm8 | subRvRmv | xorR8Rm8 | xorRvRmv | cmpRm8R8 | cmpRmvRv | cmpRm8Imm8 | cmpRmvImmv | cmpRmvImm8 | cmpR8Rm8
  | cmpRvRmv | testRm8R8 | testRmvRv | testRm8Imm8 | testRmvImmv | imulRvRmvImmv | imulRvRmvImm8 | imulRvRmv | movR8Rm8
  | movRvRmv | movzxRm8 | movzxRm16 | movsxRm8 | movsxRm16 | movAlMoffs | movEaxMoffs | xlat =>
    refine perform_hasSystem hs ?_
    dsimp only [State.aluRegRM, State.cmpRM, State.cmpRegRM, State.testRM, State.imulRegRM, State.loadReg,
      State.loadExt, State.loadMoffs, State.xlat]
    split
    · exact .error
    · exact .ok hs
  | mulRm8 | mulRmv | imulRm8 | imulRmv =>
    refine perform_hasSystem hs ?_
    dsimp only [State.mulRM, State.imulAcc]
    split
    · exact .error
    · exact .ok (State.setProduct_hasSystem (s := s.mulFlags _) hs)
  | divRm8 | divRmv | idivRm8 | idivRmv =>
    refine perform_hasSystem hs ?_
    dsimp only [State.divRM, State.idivRM]
    split
    · exact .error
    split
    · exact .error
    · exact .ok (State.setQuotRem_hasSystem (s := s.divFlags) hs)
  | bsf | bsr =>
    refine perform_hasSystem hs ?_
    dsimp only [State.scanRM]
    split
    · exact .error
    split
    · exact .ok hs
    · exact .ok hs
  | lar | lsl =>
    refine perform_hasSystem hs ?_
    dsimp only [State.loadRights, State.loadLimit]
    split
    · exact .error
    · exact .ok hs
    · split
      · exact .ok hs
      · exact .ok hs
  | verr | verw =>
    refine perform_hasSystem hs ?_
    dsimp only [State.verify]
    split
    · exact .error
    · exact .ok hs
    · exact .ok hs
  -- bits, shifts and conditions
  | btRmvImm8 | btsRmvImm8 | btrRmvImm8 | btcRmvImm8 => exact perform_hasSystem hs (State.bitImm_hasSystem hs)
  | btRmvRv | btsRmvRv | btrRmvRv | btcRmvRv => exact perform_hasSystem hs (State.bitOffset_hasSystem hs)
  | seto | setno | setb | setnb | setz | setnz | setbe | setnbe | sets | setns | setp | setnp | setl | setnl | setle
  | setnle =>
    exact perform_hasSystem hs (State.writeRM_hasSystem hs)
  | rolRm8 | rolRmv | rorRm8 | rorRmv | rclRm8 | rclRmv | rcrRm8 | rcrRmv | shlRm8 | shlRmv | shrRm8 | shrRmv | sarRm8
  | sarRmv =>
    exact perform_hasSystem hs (State.shiftRM_hasSystem hs)
  | shldImm8 | shldCl | shrdImm8 | shrdCl => exact perform_hasSystem hs (State.doubleShift_hasSystem hs)
  -- registers and flags alone
  | movR8Imm8 | movRvImmv | lahf | sahf | cmc | clc | stc | cld | std | nop | cwd | daa | das =>
    exact perform_hasSystem hs (.ok hs)
  | aaa | aas | cbw =>
    refine perform_hasSystem hs (.ok ?_)
    dsimp only [State.aaa, State.aas, State.cbw]
    split <;> exact hs
  | aad | aam =>
    refine perform_hasSystem hs ?_
    dsimp only [State.aad, State.aam]
    split
    · exact .ok hs
    · exact .error
  | cli | sti =>
    refine perform_hasSystem hs ?_
    dsimp only [State.cli, State.sti]
    split
    · exact .error
    · exact .ok hs
  | lea =>
    refine perform_hasSystem hs ?_
    split
    · exact .error
    · exact .ok hs
  -- moves
  | movRm8R8 | movRmvRv | movRm8Imm8 | movRmvImmv => exact perform_hasSystem hs (State.writeRM_hasSystem hs)
  | movMoffsAl | movMoffsEax => exact perform_hasSystem hs (State.memWrite_hasSystem hs)
  | xchgRm8R8 | xchgRmvRv | xchgEaxRv => exact perform_hasSystem hs (State.xchgRM_hasSystem hs)
  | movRmSreg => exact perform_hasSystem hs (State.movFromSeg_hasSystem hs)
  | movSregRm => exact perform_hasSystem hs (State.movToSeg_hasSystem hs)
  | les | lds | lss | lfs | lgs => exact perform_hasSystem hs (State.loadFar_hasSystem hs)
  -- the stack
  | pushRv | pushRmv => exact perform_hasSystem hs (State.pushRM_hasSystem hs)
  | pushImmv | pushImm8 => exact perform_hasSystem hs (State.pushOrShutdown_hasSystem hs)
  | pushEs | pushCs | pushSs | pushDs | pushFs | pushGs =>
    exact perform_hasSystem hs (State.pushOrShutdown_hasSystem (State.padWord_hasSystem hs))
  | popRv | popRmv => exact perform_hasSystem hs (State.popRM_hasSystem hs)
  | popEs | popSs | popDs | popFs | popGs => exact perform_hasSystem hs (State.popSeg_hasSystem hs)
  | pusha => exact perform_hasSystem hs (State.pushAll_hasSystem hs)
  | popa => exact perform_hasSystem hs (State.popAll_hasSystem hs)
  | pushf => exact perform_hasSystem hs (State.pushFlags_hasSystem hs)
  | popf => exact perform_hasSystem hs (State.popFlags_hasSystem hcpl hs)
  | enter => exact perform_hasSystem hs (State.enterFrame_hasSystem hs)
  | leave => exact perform_hasSystem hs (State.leaveFrame_hasSystem hs)
  -- control transfers
  | jo | jno | jb | jnb | jz | jnz | jbe | jnbe | js | jns | jp | jnp | jl | jnl | jle | jnle | jcxzRel8 =>
    exact perform_hasSystem hs (State.jumpIf_hasSystem hs)
  | loopneRel8 | loopeRel8 | loopRel8 =>
    exact perform_hasSystem hs (State.jumpIf_hasSystem (s := s.setEReg s.addrSize .ecx _) hs)
  | jmpRelv | jmpRel8 => exact perform_hasSystem hs (State.jumpNear_hasSystem hs)
  | jmpRmv => exact perform_hasSystem hs (.after fun _ => State.jumpNear_hasSystem hs)
  | jmpFar => exact perform_hasSystem hs (State.farJump_hasSystem hs)
  | jmpFarM => exact perform_hasSystem hs (.after fun _ => .after fun _ => State.farJump_hasSystem hs)
  | callRelv => exact perform_hasSystem hs (State.callNear_hasSystem hs)
  | callRmv => exact perform_hasSystem hs (.after fun _ => State.callNear_hasSystem hs)
  | callFar => exact perform_hasSystem hs (State.farCall_hasSystem hs)
  | callFarM => exact perform_hasSystem hs (.after fun _ => .after fun _ => State.farCall_hasSystem hs)
  | retNearImm | retNear => exact perform_hasSystem hs (State.retNear_hasSystem hs)
  | retFarImm | retFar => exact perform_hasSystem hs (State.retFar_hasSystem hs)
  -- interrupts
  | int3 => exact perform_hasSystem hs (State.enter_hasSystem hs)
  | intN =>
    refine perform_hasSystem hs ?_
    dsimp only [State.intImm]
    split
    · exact .error
    · exact State.enter_hasSystem hs
  | into =>
    refine perform_hasSystem hs ?_
    dsimp only [State.intOverflow]
    split
    · exact State.enter_hasSystem hs
    · exact .ok hs
  | iret => exact perform_hasSystem hs (State.iret_hasSystem hcpl hs)
  | bound =>
    refine perform_hasSystem hs ?_
    dsimp only [State.boundTest]
    split
    · exact .error
    split
    · exact .error
    split
    · exact .error
    · exact .ok hs
  -- ports and strings
  | inAlImm8 | inEaxImm8 | inAlDx | inEaxDx => exact perform_hasSystem hs (State.inPort_hasSystem hs)
  | outImm8Al | outImm8Eax | outDxAl | outDxEax => exact perform_hasSystem hs (State.outPort_hasSystem hs)
  | movsB | movsV => exact perform_hasSystem hs (State.repeated_hasSystem hs (State.movsOne_hasSystem hs))
  | cmpsB | cmpsV => exact perform_hasSystem hs (State.repeated_hasSystem hs (State.cmpsOne_hasSystem hs))
  | scasB | scasV => exact perform_hasSystem hs (State.repeated_hasSystem hs (State.scasOne_hasSystem hs))
  | lodsB | lodsV => exact perform_hasSystem hs (State.repeated_hasSystem hs (State.lodsOne_hasSystem hs))
  | stosB | stosV => exact perform_hasSystem hs (State.repeated_hasSystem hs (State.stosOne_hasSystem hs))
  | insB | insV => exact perform_hasSystem hs (State.repeated_hasSystem hs (State.insOne_hasSystem hs))
  | outsB | outsV => exact perform_hasSystem hs (State.repeated_hasSystem hs (State.outsOne_hasSystem hs))
  -- protection
  | arpl => exact perform_hasSystem hs (State.adjustRpl_hasSystem hs)
  | sldt | str => exact perform_hasSystem hs (State.storeSystem_hasSystem hs)
  | sgdt | sidt => exact perform_hasSystem hs (State.storeTable_hasSystem hs)
  | smsw => exact perform_hasSystem hs (State.storeWordFree_hasSystem hs)
  | lldt => exact perform_hasSystem_of_level0 hcpl hs State.loadLdt_ensures
  | ltr => exact perform_hasSystem_of_level0 hcpl hs State.loadTr_ensures
  | lgdt => exact perform_hasSystem_of_level0 hcpl hs State.loadGdt_ensures
  | lidt => exact perform_hasSystem_of_level0 hcpl hs State.loadIdt_ensures
  | lmsw => exact perform_hasSystem_of_level0 hcpl hs State.loadMsw_ensures
  | movRCr | movRDr | movRTr => exact perform_hasSystem_of_level0 hcpl hs State.moveFromSpecial_ensures
  | movCrR | movDrR | movTrR => exact perform_hasSystem_of_level0 hcpl hs State.moveToSpecial_ensures
  | clts | hlt =>
    refine perform_hasSystem_of_level0 hcpl hs ?_
    rw [State.needCpl0_of_ne hcpl]
    exact .error
  | wait =>
    refine perform_hasSystem hs ?_
    dsimp only [State.waitPins]
    split
    · exact .error
    split
    · exact .error
    split
    · exact .ok hs
    · exact .ok hs
  | esc =>
    refine perform_hasSystem hs ?_
    dsimp only [State.escape]
    split
    · exact .error
    split
    · exact .error
    split
    · exact .error
    · exact .ok hs
  -- prefixes
  | segEs | segCs | segSs | segDs | segFs | segGs | lock | repne | rep =>
    dsimp only [execSegEs, execSegCs, execSegSs, execSegDs, execSegFs, execSegGs, execLock, execRepne, execRep,
      State.segPrefix, State.groupPrefix]
    split
    · exact .next hs
    · exact .refused
  | opsize | addrsize => exact .next hs

end SystemMeanings

/-- Settles O50: every instruction keeps the system registers outside level 0 (`exec_hasSystem`): the operations of an
instruction do not write them, those that do need level 0, and an event enters its handler with the IOPL it finds. -/
theorem outerLevelsKeepSystemRegisters : Obligations.OuterLevelsKeepSystemRegisters :=
  fun s t i hcpl ht => State.HasSystem.spec (exec_hasSystem i hcpl s.hasSystem_self t ht)

end Sys2Proof.Machine

/-! PROOFS. O49: the instructions that need Protected Mode, and those that need level 0. -/

namespace Sys2Proof.Machine

open Claims (Raises privileged readForms writeForms)

section ModeChecks

variable {s : State} {rm : RM} {r : Reg} {src : BitVec 16}

/-! ### Outside Protected Mode -/

theorem State.needProtected_of_not (hp : s.protectedMode = false) : s.needProtected = raise excUD := by
  simp [State.needProtected, needUD, need, hp]

theorem State.probe_of_not_protected (hp : s.protectedMode = false) : s.probe rm = raise excUD := by
  rw [State.probe, State.needProtected_of_not hp]
  rfl

theorem State.adjustRpl_of_not_protected (hp : s.protectedMode = false) : s.adjustRpl rm src = raise excUD := by
  rw [State.adjustRpl, State.needProtected_of_not hp]
  rfl

theorem State.storeSystem_of_not_protected (hp : s.protectedMode = false) : s.storeSystem rm src = raise excUD := by
  rw [State.storeSystem, State.needProtected_of_not hp]
  rfl

theorem State.systemOperand_of_not_protected (hp : s.protectedMode = false) : s.systemOperand rm = raise excUD := by
  rw [State.systemOperand, State.needProtected_of_not hp]
  rfl

/-- The instructions that read a selector to look up its descriptor are all #UD outside Protected Mode (R475). -/
theorem selectorProbes_of_not_protected {ok : Desc → Bool} (hp : s.protectedMode = false) :
    s.loadRights r rm = raise excUD ∧ s.loadLimit r rm = raise excUD ∧ s.verify rm ok = raise excUD := by
  refine ⟨?_, ?_, ?_⟩
  · rw [State.loadRights, State.probe_of_not_protected hp]; rfl
  · rw [State.loadLimit, State.probe_of_not_protected hp]; rfl
  · rw [State.verify, State.probe_of_not_protected hp]; rfl

theorem systemLoads_of_operand {x : Exc} (h : s.systemOperand rm = raise x) :
    s.loadLdt rm = raise x ∧ s.loadTr rm = raise x := by
  constructor
  · rw [State.loadLdt, h]; rfl
  · rw [State.loadTr, h]; rfl

/-! ### Outside level 0 -/

theorem State.systemOperand_of_cpl_ne (hp : s.protectedMode = true) (hcpl : s.cpl ≠ 0) :
    s.systemOperand rm = raise (excGP 0) := by
  rw [State.systemOperand, State.needProtected_of hp, State.needCpl0_of_ne hcpl]
  rfl

theorem State.loadTable_of_cpl_ne {ea : EA} (hcpl : s.cpl ≠ 0) : s.loadTable (.mem ea) = raise (excGP 0) := by
  rw [State.loadTable, State.needCpl0_of_ne hcpl]
  rfl

theorem State.loadMsw_of_cpl_ne (hcpl : s.cpl ≠ 0) : s.loadMsw rm = raise (excGP 0) := by
  rw [State.loadMsw, State.needCpl0_of_ne hcpl]
  rfl

theorem State.moveFromSpecial_of_cpl_ne {v : BitVec 32} (hcpl : s.cpl ≠ 0) :
    s.moveFromSpecial r (some v) = raise (excGP 0) := by
  rw [State.moveFromSpecial, State.needCpl0_of_ne hcpl]
  rfl

theorem State.moveToSpecial_of_cpl_ne {t : State} (hcpl : s.cpl ≠ 0) :
    s.moveToSpecial (some t) = raise (excGP 0) := by
  rw [State.moveToSpecial, State.needCpl0_of_ne hcpl]
  rfl

theorem tableLoads_raise {ea : EA} (hs : s.plain) (hcpl : s.cpl ≠ 0) :
    Raises (.lgdt (.mem ea)) s (excGP 0) ∧ Raises (.lidt (.mem ea)) s (excGP 0) := by
  have htable := State.loadTable_of_cpl_ne (ea := ea) hcpl
  exact ⟨(exec_lgdt s _).trans (perform_plain_raise hs (by rw [State.loadGdt, htable]; rfl)),
    (exec_lidt s _).trans (perform_plain_raise hs (by rw [State.loadIdt, htable]; rfl))⟩

theorem clts_hlt_raise (hs : s.plain) (hcpl : s.cpl ≠ 0) : Raises .clts s (excGP 0) ∧ Raises .hlt s (excGP 0) := by
  have hlevel := State.needCpl0_of_ne hcpl
  exact ⟨(exec_clts s).trans (perform_plain_raise hs (by rw [hlevel]; rfl)),
    (exec_hlt s).trans (perform_plain_raise hs (by rw [hlevel]; rfl))⟩

/-- The privileged instructions: those of every mode one by one, then the moves of special registers by their lists. -/
theorem privileged_raise {ea : EA} (hs : s.plain) (hcpl : s.cpl ≠ 0) :
    ∀ i ∈ privileged s rm ea r, Raises i s (excGP 0) := by
  have ⟨hclts, hhlt⟩ := clts_hlt_raise hs hcpl
  have ⟨hlgdt, hlidt⟩ := tableLoads_raise (ea := ea) hs hcpl
  have hlmsw : Raises (.lmsw rm) s (excGP 0) := (exec_lmsw s rm).trans (perform_plain_raise hs (State.loadMsw_of_cpl_ne hcpl))
  have hcr0 : Raises (.movCrR 0 r) s (excGP 0) :=
    exec_movCr0.trans (perform_plain_raise hs (State.moveToSpecial_of_cpl_ne hcpl))
  simp only [privileged, List.forall_mem_cons, List.append_eq, List.forall_mem_append, List.forall_mem_map]
  exact ⟨hclts, hhlt, hlgdt, hlidt, hlmsw, hcr0,
    fun i hi => (exec_readForms i hi).trans (perform_plain_raise hs (State.moveFromSpecial_of_cpl_ne hcpl)),
    fun i hi => (exec_writeForms i hi).trans (perform_plain_raise hs (State.moveToSpecial_of_cpl_ne hcpl))⟩

end ModeChecks

/-- Settles O49: each body's first check fails. -/
theorem modeAndPrivilegeChecks : Obligations.ModeAndPrivilegeChecks := by
  refine ⟨fun s rm r hs hp => ?_, fun s rm ea r hs hcpl => ⟨privileged_raise hs hcpl, fun hp => ?_⟩⟩
  · have ⟨hlar, hlsl, hverr⟩ := selectorProbes_of_not_protected (rm := rm) (r := r) (ok := Desc.readable) hp
    have ⟨_, _, hverw⟩ := selectorProbes_of_not_protected (rm := rm) (r := r) (ok := Desc.writableData) hp
    have ⟨hlldt, hltr⟩ := systemLoads_of_operand (State.systemOperand_of_not_protected (rm := rm) hp)
    simp only [List.forall_mem_cons]
    exact ⟨(exec_arpl s rm r).trans (perform_plain_raise hs (State.adjustRpl_of_not_protected hp)),
      (exec_lar s r rm).trans (perform_plain_raise hs hlar), (exec_lsl s r rm).trans (perform_plain_raise hs hlsl),
      (exec_verr s rm).trans (perform_plain_raise hs hverr), (exec_verw s rm).trans (perform_plain_raise hs hverw),
      (exec_sldt s rm).trans (perform_plain_raise hs (State.storeSystem_of_not_protected hp)),
      (exec_str s rm).trans (perform_plain_raise hs (State.storeSystem_of_not_protected hp)),
      (exec_lldt s rm).trans (perform_plain_raise hs hlldt), (exec_ltr s rm).trans (perform_plain_raise hs hltr),
      List.forall_mem_nil _⟩
  · have ⟨hlldt, hltr⟩ := systemLoads_of_operand (State.systemOperand_of_cpl_ne (rm := rm) hp hcpl)
    exact ⟨(exec_lldt s rm).trans (perform_plain_raise hs hlldt), (exec_ltr s rm).trans (perform_plain_raise hs hltr)⟩

end Sys2Proof.Machine

/-! PROOFS. O52, O53, O54, O60: RESET, the events of an instruction boundary, and exceptions while an event is
delivered. -/

namespace Sys2Proof.Machine

open Claims (AfterReset)

/-! ### RESET -/

theorem State.reset_inv : State.reset.Inv :=
  ⟨⟨State.reset_mem_wf, BitVec.zero_and, rfl, rfl, SysReg.reset_global, SysReg.reset_global⟩, rfl, rfl⟩

/-- Settles O60. -/
theorem invariantHoldsAtReset : Obligations.InvariantHoldsAtReset := State.reset_inv

theorem State.reset_afterReset : AfterReset State.reset := by
  refine ⟨rfl, rfl, rfl, rfl, by decide, fun r => ?_, rfl, rfl, rfl, rfl, rfl, rfl, rfl, rfl, rfl, rfl, rfl, rfl, rfl,
    rfl, rfl, rfl⟩
  cases r <;> exact ⟨rfl, rfl, rfl, rfl, rfl, rfl⟩

/-- RESET differs from the initial state only in what is not the processor's (R500). -/
theorem State.doReset_afterReset (s : State) : AfterReset s.doReset := State.reset_afterReset

/-- Settles O52: the step of RESET gives the reset state around the memory that is there. -/
theorem resetGivesTheTableOfValues : Obligations.ResetGivesTheTableOfValues :=
  ⟨State.reset_afterReset, fun s hreset => ⟨s.doReset, if_pos hreset, s.doReset_afterReset, rfl, fun _ => rfl⟩⟩

/-! ### Events at a boundary -/

section Boundary

variable {s : State}

theorem State.takesNmi_iff :
    s.takesNmi = true ↔ s.pins.nmi = true ∧ s.seq.nmiBlocked = false ∧ s.seq.inhibit ≠ .all := by
  simp [State.takesNmi, and_assoc]

theorem State.takesIntr_iff : s.takesIntr = true ↔ s.flags.intf = true ∧ s.seq.inhibit = .none := by
  simp [State.takesIntr]

theorem step_of_shutdown (hreset : s.pins.reset = false) (hshut : s.seq.shutdown = true) : step s = .next s := by
  simp [step, State.runStep, hreset, hshut]

theorem step_of_nmi (hreset : s.pins.reset = false) (hshut : s.seq.shutdown = false) (hnmi : s.takesNmi = true) :
    step s = State.deliverAtBoundary
      { s with pins := { s.pins with nmi := false }, seq := { s.seq with nmiBlocked := true } } nmiEvent := by
  simp [step, State.runStep, hreset, hshut, hnmi]

theorem step_of_intr {v : BitVec 8} (hreset : s.pins.reset = false) (hshut : s.seq.shutdown = false)
    (hnmi : ¬ s.takesNmi = true) (hv : s.pins.intr = some v) (hintr : s.takesIntr = true) :
    step s = State.deliverAtBoundary { s with pins := { s.pins with intr := none } } (intrEvent v) := by
  simp [step, State.runStep, hreset, hshut, hnmi, hv, hintr]

/-- Without an event a step is one instruction, or nothing in the halted state (R479). -/
theorem step_of_noEvent (hreset : s.pins.reset = false) (hshut : s.seq.shutdown = false) (hnmi : ¬ s.takesNmi = true)
    (hintr : s.pins.intr = none ∨ ¬ s.takesIntr = true) : step s = s.runUnlessHalted := by
  simp only [step, State.runStep, hreset, hshut, hnmi]
  cases hv : s.pins.intr with
  | none => rfl
  | some v =>
    have hno : ¬ s.takesIntr = true := hintr.resolve_left (by simp [hv])
    simp [hno]

end Boundary

/-- Settles O53: the four outcomes of a boundary, each under the conditions of the recognised requests. -/
theorem boundaryEventsAreTakenInOrder : Obligations.BoundaryEventsAreTakenInOrder := by
  intro s hreset
  refine ⟨step_of_shutdown hreset, fun hshut hnmi => step_of_nmi hreset hshut (State.takesNmi_iff.2 hnmi),
    fun v hshut hnmi hv hopen => ?_, fun hshut hnmi hnone hhalted => ?_⟩
  · exact step_of_intr hreset hshut (hnmi ∘ State.takesNmi_iff.1) hv (State.takesIntr_iff.2 hopen)
  · rw [step_of_noEvent hreset hshut (hnmi ∘ State.takesNmi_iff.1) (hnone.imp_right (· ∘ State.takesIntr_iff.1))]
    exact if_pos hhalted

/-! ### Exceptions during a delivery -/

section Escalation

variable {s : State} {e : Event} {x : Exc} {n : Nat}

theorem isContributory_iff {v : BitVec 8} : isContributory v = true ↔ v ∈ [(0 : BitVec 8), 10, 11, 12, 13] :=
  List.contains_iff_mem

theorem State.deliver_of_escalates {e' : Event} (hx : s.enter e = .error (.exc x)) (he : e.escalate x = some e') :
    s.deliver (n + 1) e = (s.loadCr2 x).deliver n e' := by
  simp [State.deliver, hx, he]

theorem State.deliver_of_escalate_none (hx : s.enter e = .error (.exc x)) (he : e.escalate x = none) :
    s.deliver (n + 1) e = .next s.shutDown := by
  simp [State.deliver, hx, he]

/-- The exceptions of which the second, while the first is delivered, makes a double fault (R472). -/
def Combines (first second : BitVec 8) : Prop :=
  (first ∈ [(0 : BitVec 8), 10, 11, 12, 13] ∧ second ∈ [(0 : BitVec 8), 10, 11, 12, 13]) ∨
    (first = 14 ∧ (second ∈ [(0 : BitVec 8), 10, 11, 12, 13] ∨ second = 14))

theorem Combines.ne_doubleFault {v w : BitVec 8} (h : Combines v w) : v ≠ 8 := by
  rintro rfl
  simp [Combines] at h

theorem combines_iff : ((isContributory e.vec && isContributory x.vec) ||
    (e.vec == 14 && (isContributory x.vec || x.vec == 14))) = true ↔ Combines e.vec x.vec := by
  simp only [Bool.or_eq_true, Bool.and_eq_true, isContributory_iff, beq_iff_eq, Combines]

theorem Event.escalate_of_doubleFault (he : e.exception = true) (hvec : e.vec = 8) : e.escalate x = none := by
  simp [Event.escalate, he, hvec]

theorem Event.escalate_of_combines (he : e.exception = true) (h : Combines e.vec x.vec) :
    e.escalate x = some { vec := 8, code := some 0, ext := e.ext, software := false, exception := true } := by
  simp only [Event.escalate, he, combines_iff.2 h, beq_eq_false_iff_ne.2 h.ne_doubleFault]
  rfl

theorem Event.escalate_of_not_combines (h : e.exception = false ∨ (e.vec ≠ 8 ∧ ¬ Combines e.vec x.vec)) :
    e.escalate x = some { vec := x.vec, code := x.code, ext := e.ext, software := false, exception := true } := by
  obtain he | ⟨hvec, hno⟩ := h
  · simp [Event.escalate, he]
  · simp only [Event.escalate, Bool.eq_false_iff.2 (hno ∘ combines_iff.1), beq_eq_false_iff_ne.2 hvec, Bool.and_false]
    rfl

end Escalation

/-- Settles O54: what an exception of a delivery becomes, by the classes of R472. -/
theorem deliveryFailuresEscalate : Obligations.DeliveryFailuresEscalate := by
  intro s e n
  refine ⟨fun t => State.deliver_of, fun x hx he hvec => ?_, fun x hx he h => ?_, fun x hx h => ?_⟩
  · exact State.deliver_of_escalate_none hx (Event.escalate_of_doubleFault he hvec)
  · exact State.deliver_of_escalates hx (Event.escalate_of_combines he h)
  · exact State.deliver_of_escalates hx (Event.escalate_of_not_combines (h.imp_right fun ⟨hvec, h1, h2⟩ =>
      ⟨hvec, not_or.2 ⟨h1, h2⟩⟩))

end Sys2Proof.Machine
